-- ==== Sys2Proof/Word.lean ====
section
/-! DEFINITION. The byte and digest types (spec/00 Conventions, spec/10 R201). -/

namespace Sys2Proof

/-- One byte of the Control Link, of a trunk frame or of a plate. -/
abbrev Byte := BitVec 8

/-- A CRC-16 digest (R201). -/
abbrev Digest := BitVec 16

end Sys2Proof
end

