-- ==== Sys2Proof/Syntax.lean ====
section
/-! DEFINITION. The commands of the part: one constructor of `Instr` per row of spec/opcode_table.json.

A REQUEST row carries its tag and its payload fields as numbers, before any range check (the checks are the owner's,
R8, R10). An EVENT row carries the object's number and whatever the outside world shows at that moment: a byte, a level,
a trunk frame with the four attention lines, a line-test result, and, where a full reset may follow, the levels of the two
baud straps (R1). -/

namespace Sys2Proof

/-- An electrical level of a pin (R66). -/
inductive Level | low | high
deriving DecidableEq, Repr

/-- The cause READY carries (R16). -/
inductive ResetCause | powerOn | pin | restart
deriving DecidableEq, Repr

/-- The four attention lines of a trunk, true while active (R171). -/
structure Attention where
  l4 : Bool
  l5 : Bool
  l6 : Bool
  l7 : Bool
deriving DecidableEq, Repr

/-- The result of a line test (R174). -/
inductive ProbeResult | ok | short | openAt (k : Nat)
deriving DecidableEq, Repr

/-- How an exchange in flight comes to its end (R158, R161): a frame arrives, its 4 ms pass, or the line test ends. -/
inductive ExchangeEnd
  | frame (bytes : List Byte)
  | timeout
  | probe (result : ProbeResult)
deriving DecidableEq, Repr

/-- The three health classes (R181). -/
inductive HealthClass | panel | trunk | layout
deriving DecidableEq, Repr

/-- One operation of TT_APPLY, with the fields of spec/10 "TT_APPLY operations"; a field behind a presence mask is an
`Option`. A title or banner of 0 is "no plate". -/
inductive TtOp
  | add (session room start stop title banner priv : Nat)
  | amend (session : Nat) (start stop title banner priv : Option Nat)
  | move (session room : Nat) (start stop : Option Nat)
  | cancel (session : Nat)
  | remove (session : Nat)
  | dismiss (room start : Nat)
deriving DecidableEq, Repr

/-- The seven settings plates in the order of R92. -/
structure Settings where
  untitled : Nat
  priv : Nat
  idle : Nat
  setup : Nat
  doorsClosed : Nat
  moved : Nat
  cancelled : Nat
deriving DecidableEq, Repr

/-- The role fields of SIGN_DEFINE (R97, R203): `other` is the DOOR form with a role byte that is neither 1 nor 2. -/
inductive SignForm
  | door (segment key : Nat)
  | corridor (routes : List (Nat × Nat))
  | other (role segment key : Nat)
deriving DecidableEq, Repr

/-- The commands, one per row of spec/opcode_table.json, in the table's order. -/
inductive Instr
  | byteReceived (b : Byte)
  | badStopBit
  | receiveGapTimeout
  | takeRequest
  | frameTransmitted
  | fullReset (cause : ResetCause) (strap1 strap0 : Level)
  | identify (tag : Byte)
  | status (tag : Byte)
  | restartFull (tag : Byte)
  | restartSigns (tag : Byte)
  | clockSet (tag : Byte) (day minute second : Nat)
  | clockRead (tag : Byte)
  | clockIntervalEnd
  | ttApply (tag : Byte) (ops : List TtOp)
  | roomTiming (tag : Byte) (room a d l : Nat)
  | ttRead (tag : Byte) (room start skip count : Nat)
  | hallDefine (tag : Byte) (hall : Nat) (segments : List Nat) (plate : Nat)
  | hallRemove (tag : Byte) (hall : Nat)
  | wallDefine (tag : Byte) (wall segA segB source x y : Nat)
  | wallRemove (tag : Byte) (wall : Nat)
  | wallSet (tag : Byte) (wall state : Nat)
  | roomDefine (tag : Byte) (room hall : Nat) (segments : List Nat) (plate : Nat)
  | roomRemove (tag : Byte) (room : Nat)
  | layoutSettle (tag : Byte) (settle : Nat)
  | layoutRead (tag : Byte) (hall : Nat)
  | wallHoldExpiry (wall : Nat)
  | lineLevelChange (line : Nat) (level : Level)
  | filterExpiry (line : Nat)
  | senseConfig (tag : Byte) (line mode o1 o2 o3 : Nat)
  | senseAck (tag : Byte) (lines : List Nat)
  | senseRead (tag : Byte)
  | plateOpen (tag : Byte) (id size : Nat) (digest : Digest)
  | plateData (tag : Byte) (id offset : Nat) (bytes : List Byte)
  | plateClose (tag : Byte) (id : Nat)
  | plateDelete (tag : Byte) (id : Nat)
  | plateList (tag : Byte) (start count : Nat)
  | poolWatch (tag : Byte) (n : Nat)
  | settingsPlates (tag : Byte) (settings : Settings)
  | signDefine (tag : Byte) (trunk position : Nat) (form : SignForm)
  | signRemove (tag : Byte) (trunk position : Nat)
  | signRead (tag : Byte) (trunk position : Nat)
  | viewExpiry (trunk position : Nat)
  | creditAccrual
  | overdueDeadlineExpiry (trunk position : Nat)
  | trunkStart (tag : Byte) (trunk probing : Nat)
  | trunkStop (tag : Byte) (trunk : Nat)
  | stopTakesEffect (trunk : Nat) (ending : ExchangeEnd) (lines : Attention)
  | trunkCount (tag : Byte) (trunk : Nat)
  | rewalkBegin (trunk : Nat) (ending : ExchangeEnd) (lines : Attention)
  | trunkCheck (tag : Byte) (trunk : Nat)
  | countReply (trunk : Nat) (frame : List Byte) (lines : Attention)
  | queryReply (trunk : Nat) (frame : List Byte) (lines : Attention)
  | loadAck (trunk : Nat) (frame : List Byte) (lines : Attention)
  | showAnswer (trunk : Nat) (frame : List Byte) (lines : Attention)
  | callReply (trunk : Nat) (frame : List Byte) (lines : Attention)
  | trunkReplyTimeout (trunk : Nat) (lines : Attention)
  | strayTrunkFrame (trunk : Nat) (frame : List Byte)
  | attentionLineRise (trunk level : Nat)
  | probeIntervalExpiry (trunk : Nat)
  | probeEnd (trunk : Nat) (result : ProbeResult) (lines : Attention)
  | recoveryTimerExpiry (trunk position : Nat)
  | wallSample
  | graceEnd (cls : HealthClass)
  | healthArm (tag : Byte) (cls : Nat)
  | healthClear (tag : Byte) (kind a b mask : Nat)
  | healthSelect (tag : Byte) (condition value : Nat)
  | healthWindow (tag : Byte) (kind w : Nat)
  | healthRead (tag : Byte) (mode x y z : Nat)
  | resetPinActive
  | powerAbsent
deriving DecidableEq, Repr

end Sys2Proof
end

