-- ==== Sys2Proof/Decode.lean ====
section
/-! DEFINITION. Decoding of table words. No row of spec/opcode_table.json gives bits (every "fields" list is empty and no row
has "fixed" bits): the part takes commands, and its requests are decoded from the bytes of a Control Link frame by
`Sys2Proof.Machine.screenRequest`. So no word spells a command here. -/

namespace Sys2Proof

/-- The command a table word spells: none, since no row of the table has bits. -/
def decodeTableWord (_nbits _w : Nat) : Option Instr := none

end Sys2Proof
end

