-- ==== Sys2Proof/Config.lean ====
section
/-! DEFINITION. The figures the manual fixes for the part: capacities (spec/00 Capacities, R14), durations in ms on the
part's timebase, the codes of IDENTIFY, and the one free value, the levels of the straps. -/

namespace Sys2Proof.Config

/-- Halls 1–12 (R44). -/
def halls : Nat := 12
/-- Segments 1–40 (R44). -/
def segments : Nat := 40
/-- Segments of one hall or room definition (R44, R51). -/
def segmentsPerHall : Nat := 6
/-- Walls 1–32 (R47). -/
def walls : Nat := 32
/-- Room definitions 1–96 (R51). -/
def rooms : Nat := 96
/-- Timetable entries of all kinds together (R26). -/
def entries : Nat := 1024
/-- Operations of one TT_APPLY (R28). -/
def operations : Nat := 16
/-- Plate ids 1–255 (R79). -/
def plates : Nat := 255
/-- Pages of the pool (R78). -/
def pages : Nat := 2048
/-- Bytes of a page (R78). -/
def pageSize : Nat := 256
/-- Largest plate in bytes (R79). -/
def plateSize : Nat := 65536
/-- Largest PLATE_DATA chunk (R82). -/
def chunk : Nat := 768
/-- Bytes of a trunk block (R80). -/
def blockSize : Nat := 64
/-- Trunks 1–4. -/
def trunks : Nat := 4
/-- Positions 1–30 of a trunk. -/
def positions : Nat := 30
/-- Slots of a panel (R126). -/
def slots : Nat := 8
/-- Sense lines 1–24 (R65). -/
def lines : Nat := 24
/-- Frames the input queue holds (R7). -/
def inputQueue : Nat := 4
/-- Notices the notice queue holds (R12). -/
def noticeQueue : Nat := 32
/-- Largest frame body (R2). -/
def frameBody : Nat := 1024
/-- The last venue minute, 65535 × 1440 + 1439 (spec/00 Venue minutes). -/
def lastMinute : Nat := 94371839
/-- The highest session number (R24). -/
def lastSession : Nat := 65535
/-- The highest creation number (R24). -/
def lastCreation : Nat := 4294967295
/-- Minutes of a venue day. -/
def dayMinutes : Nat := 1440

/-- The second of the venue clock and of the WALL samples, in ms (R19, R184). -/
def second : Nat := 1000
/-- The contact filter's time (R67). -/
def filterTime : Nat := 50
/-- The receiver's gap (R5). -/
def receiveGap : Nat := 20
/-- The day-list view's expiry (R121). -/
def viewTime : Nat := 30000
/-- The credit accrual interval (R138). -/
def accrualTime : Nat := 60000
/-- The overdue deadline (R140). -/
def overdueTime : Nat := 8000
/-- The probe interval (R175). -/
def probeTime : Nat := 10000
/-- The recovery timer (R166). -/
def recoveryTime : Nat := 30000
/-- The grace of a health class (R190). -/
def graceTime : Nat := 30000
/-- The settle time after a full reset, in seconds (R58). -/
def settleReset : Nat := 8

/-- The IDENTIFY codes (R14). -/
def vendorCode : Nat := 0x4B19
def partCode : Nat := 6840
def siliconStep : Nat := 0x41

/-- The 22 capacity figures of IDENTIFY in R14's order. -/
def capacities : List Nat :=
  [halls, segments, walls, rooms, entries, operations, plates, pages, pageSize, plateSize, chunk, trunks, positions,
   120, slots, 6, 8, 4, lines, inputQueue, frameBody, noticeQueue]

/-- Whether a strap pin, 1 or 0, shows HIGH at the reset of the n-th RESTART FULL: a free value, since the board may change the
straps between full resets (R1; notes/assumptions/8.md). -/
opaque strapHigh : Nat → Nat → Bool

end Sys2Proof.Config
end

