-- ==== Sys2Proof/Machine/State.lean ====
section
/-! DEFINITION. The state of the Bevatra 6840, block by block, as plain data, and its value after a full reset.

Numbered records are kept in `Table`s: lists of (number, record) with strictly rising numbers; a number that is not listed
is undefined, or holds the record's reset value where every number has a record. Sets of numbers are strictly rising lists.
A timer is kept as the instant (ms on the timebase) at which it runs out (notes/assumptions/4.md). -/

namespace Sys2Proof.Machine

/-- Numbered records, numbers strictly rising. -/
abbrev Table (α : Type) := List (Nat × α)

/-! ### Faults and refusals -/

/-- Why a command stops the model. Every constructor is SAFE: it is raised only by an event that names an object the part
does not have, which the part cannot see (notes/assumptions/6.md). Requests never fault: R10 answers them. -/
inductive Fault
  /-- An event names a sense line outside 1–24 (R65). Raised by LINE_LEVEL_CHANGE and FILTER_EXPIRY. Safe. -/
  | noSuchLine (line : Nat)
  /-- An event names a wall outside 1–32 (R47). Raised by WALL_HOLD_EXPIRY. Safe. -/
  | noSuchWall (wall : Nat)
  /-- An event names a trunk outside 1–4 or a position outside 1–30 (R96). Raised by the events of trunks, panels and
  signs. Safe. -/
  | noSuchPosition (trunk position : Nat)
  /-- An event names an attention line outside 4–7 (R171). Raised by ATTENTION_LINE_RISE. Safe. -/
  | noSuchAttentionLine (level : Nat)
deriving DecidableEq, Repr

/-- Why a command is refused by the model (not by the part, whose refusals are replies). -/
inductive Refusal
  /-- A command that has no meaning yet. Raised by no arm of `exec`: every row of the table has its meaning. Safe. -/
  | notModelled (mnemonic : String)
deriving DecidableEq, Repr

/-! ### Link Interface (R1–R17) -/

/-- The status codes of a reply (R10). -/
inductive Status
  | ok | adjusted | unknownRequest | badLength | outOfRange | notFound | exists | full | inUse | overlap | sequence
  | digestMismatch | notReady | busy | wrongMode
deriving DecidableEq, Repr

/-- The receiver's four states (R4). -/
inductive RxState | hunt | length | body | check
deriving DecidableEq, Repr

/-- The receiver: its state, the bytes held after SYNC, and how many bytes the state still expects (R4). -/
structure Receiver where
  state : RxState
  held : List Byte
  expected : Nat
deriving DecidableEq, Repr

/-- A good frame's body (R2, R6). -/
structure Frame where
  kind : Byte
  tag : Byte
  payload : List Byte
deriving DecidableEq, Repr

/-- A reply with its header (R9). -/
structure Reply where
  tag : Byte
  status : Status
  summary : Bool
  clockSet : Bool
  payload : List Byte
deriving DecidableEq, Repr

/-- A wall's position (R47). -/
inductive WallState | unknown | opened | closed
deriving DecidableEq, Repr

/-- The supervised objects (R181). -/
inductive HealthObject
  | panel (trunk position : Nat)
  | trunk (trunk : Nat)
  | wall (wall : Nat)
  | hall (hall : Nat)
deriving DecidableEq, Repr

/-- The ten condition kinds (09 Objects and conditions). -/
inductive Condition
  | silent | overdue | mismatch | panelFault | supply | lineShort | lineOpen | chainChanged | wallConflict | layoutMismatch
deriving DecidableEq, Repr

/-- One panel of a chain as the walk found it: kind, slot count and key-fitted bytes as received (R155, R162). -/
structure ChainEntry where
  kind : Byte
  slotCount : Byte
  keyFitted : Byte
deriving DecidableEq, Repr

/-- The notices (01 Notices, 10 Notices). -/
inductive Notice
  | ready (cause : ResetCause)
  | linkDropped (tag : Byte)
  | wallChange (hall wall : Nat) (state : WallState)
  | senseEdge (line : Nat) (active : Bool)
  | health (object : HealthObject) (condition : Condition) (live held : Bool) (k : Nat)
  | poolAvailable (free : Nat)
  | countDone (trunk : Nat) (table : List ChainEntry)
  | probeDone (trunk : Nat) (result : ProbeResult)
deriving DecidableEq, Repr

/-- A request taken from the queue whose reply has not left the line: its formed reply, the notices that follow it (R12),
and whether a full reset follows it (R17). -/
structure Service where
  reply : Reply
  after : List Notice
  resetAfter : Bool
deriving DecidableEq, Repr

/-- What the transmitter is sending (R3). -/
inductive OnLine | idle | reply | notice (n : Notice)
deriving DecidableEq, Repr

/-- Whether the last frame sent was a reply or a notice (R13). -/
inductive LastSent | none | reply | notice
deriving DecidableEq, Repr

/-- The Link Interface. `service` holds the request in service; it has more than one member only where request rows were
handed over while an earlier reply was still leaving (notes/assumptions/2.md). -/
structure Link where
  bitRate : Nat
  receiver : Receiver
  queue : List Frame
  service : List Service
  line : OnLine
  lastSent : LastSent
  notices : List Notice
  overflow : Bool
  readySent : Bool
deriving DecidableEq, Repr

/-! ### Venue Clock and Timetable (R18–R43) -/

/-- The venue clock: UNSET or SET, the reading, and the end of the running one-second interval (R18, R19). -/
structure Clock where
  isSet : Bool
  day : Nat
  minute : Nat
  second : Nat
  intervalEnd : Option Nat
deriving DecidableEq, Repr

/-- The four combinations of kind and status (R24): a SESSION, SCHEDULED or CANCELLED, with its number; a TOMBSTONE with
its creation number, MOVED with a target or CANCELLED without. -/
inductive EntryKind
  | session (number : Nat) (cancelled : Bool)
  | tombstone (creation : Nat) (target : Option Nat)
deriving DecidableEq, Repr

/-- A timetable entry (R24). A title or banner of 0 is absent. -/
structure Entry where
  what : EntryKind
  room : Nat
  start : Nat
  stop : Nat
  title : Nat
  banner : Nat
  priv : Bool
deriving DecidableEq, Repr

/-- A room definition's announce, doors and linger times in minutes (R40). -/
structure Timing where
  a : Nat
  d : Nat
  l : Nat
deriving DecidableEq, Repr

/-- The Timetable: entries in table order (R25), the next creation number (R24), the timing records (R40). -/
structure Timetable where
  entries : List Entry
  nextCreation : Nat
  timing : Table Timing
deriving DecidableEq, Repr

/-! ### Layout Unit (R44–R64) -/

/-- A component of a formation with its matching room definition (R59). -/
structure Component where
  segments : List Nat
  room : Option Nat
deriving DecidableEq, Repr

/-- A defined hall (R44): segments ascending, name plate, formation, reconfiguring indication. -/
structure Hall where
  segments : List Nat
  plate : Nat
  formation : List Component
  reconfiguring : Bool
deriving DecidableEq, Repr

/-- The position a SENSED wall's switches show (R55). -/
inductive RawState | opened | closed | moving | conflict
deriving DecidableEq, Repr

/-- A running hold (R56): the candidate end position, its length in seconds, the instant it runs out. -/
structure Hold where
  opened : Bool
  length : Nat
  ends : Nat
deriving DecidableEq, Repr

/-- A wall's source (R47): SENSED with its two lines, raw state and hold, or MANUAL. -/
inductive WallSource
  | sensed (closedLine openLine : Nat) (raw : RawState) (hold : Option Hold)
  | manual
deriving DecidableEq, Repr

/-- A defined wall (R47). -/
structure Wall where
  hall : Nat
  segA : Nat
  segB : Nat
  source : WallSource
  settled : WallState
deriving DecidableEq, Repr

/-- A defined room definition (R51): hall, segments ascending, name plate. -/
structure Room where
  hall : Nat
  segments : List Nat
  plate : Nat
deriving DecidableEq, Repr

/-- The Layout Unit, with the settle time T in seconds (R58). -/
structure Layout where
  halls : Table Hall
  walls : Table Wall
  rooms : Table Room
  settle : Nat
deriving DecidableEq, Repr

/-! ### Sense Unit (R65–R77) -/

/-- Which changes of active state set the pending flag (R65). -/
inductive EdgeSelect | rise | fall | both
deriving DecidableEq, Repr

/-- The contact filter (R65, R67): the filtered level, and the candidate with the instant it runs out. -/
structure Filter where
  level : Option Level
  candidate : Option (Level × Nat)
deriving DecidableEq, Repr

/-- A line's mode with the fields present in that mode (R65). -/
inductive LineMode
  | off
  | contact (filter : Filter) (activeLevel : Level) (edge : EdgeSelect) (hall : Nat) (active pendingFlag : Bool)
  | wall (filter : Filter) (wall : Nat)
  | lamp (hall : Nat) (lit : Bool)
deriving DecidableEq, Repr

/-- A sense line: the level outside puts on its pin (R66) and its mode. -/
structure Line where
  input : Level
  mode : LineMode
deriving DecidableEq, Repr

/-- A line after a full reset, its pin undriven (R66, R77). -/
def Line.reset : Line := ⟨.high, .off⟩

/-- The Sense Unit: the lines that differ from `Line.reset`, and the sets of hall numbers whose doors-closed state is ACTIVE
(R71) and whose lamp inputs are true (R73). -/
structure Sense where
  lines : Table Line
  doors : List Nat
  reconfiguring : List Nat
  mismatch : List Nat
deriving DecidableEq, Repr

/-! ### Plate Store (R78–R95) -/

/-- The states of a plate record that is not EMPTY (R79). -/
inductive PlateState | filling | ready | doomed
deriving DecidableEq, Repr

/-- A plate record in a state other than EMPTY (R79). -/
structure Plate where
  state : PlateState
  size : Nat
  pages : List Nat
  received : Nat
  digest : Digest
  timetableRefs : Nat
  layoutRefs : Nat
  settingsRefs : Nat
  inFlight : Nat
deriving DecidableEq, Repr

/-- The Plate Store: the plate records that are not EMPTY, the bytes of the page pool, the free count, the pool watch and
the settings record (R78, R79, R90, R92). The address of place k of page p is (p − 1) × 256 + k. -/
structure PlateStore where
  plates : Table Plate
  pool : List Host.Cell
  freeCount : Nat
  watch : Option Nat
  settings : Settings
deriving DecidableEq, Repr

/-! ### Resolver (R96–R125) -/

/-- The composition kinds (R110). -/
inductive CompKind
  | blank | nameOnly | session | setupPending | movedNotice | cancelledNotice | directory | dayList
deriving DecidableEq, Repr

/-- The phases (R104). -/
inductive Phase | none | upcoming | doors | underway | closing
deriving DecidableEq, Repr

/-- The kinds of a time field (R105). -/
inductive TimeKind | none | clock | countdown
deriving DecidableEq, Repr

/-- A time field (R105). -/
structure TimeField where
  kind : TimeKind
  value : Nat
  offset : Int
deriving DecidableEq, Repr

/-- The empty time field (R105). -/
def TimeField.empty : TimeField := ⟨.none, 0, 0⟩

/-- Six layers of plates, 0 for empty (R110). -/
structure Layers where
  l1 : Nat
  l2 : Nat
  l3 : Nat
  l4 : Nat
  l5 : Nat
  l6 : Nat
deriving DecidableEq, Repr

/-- A directory line (R110, R120). -/
structure DirLine where
  arrow : Nat
  phase : Phase
  time : TimeField
deriving DecidableEq, Repr

/-- A composition record (R110). -/
structure Composition where
  kind : CompKind
  layers : Layers
  phase : Phase
  time : TimeField
  progress : Option Nat
  nextStart : Option Nat
  lines : List DirLine
  more : Bool
  starts : List Nat
deriving DecidableEq, Repr

/-- The composition of a kind with every field at its empty value (R110). -/
def Composition.empty (kind : CompKind) : Composition :=
  ⟨kind, ⟨0, 0, 0, 0, 0, 0⟩, .none, .empty, none, none, [], false, []⟩

/-- The identity of a primary entry (R96, R101). -/
inductive PrimaryRef
  | session (number : Nat)
  | tombstone (room creation : Nat)
deriving DecidableEq, Repr

/-- A sign's role and role fields (R96). -/
inductive SignRole
  | door (segment : Nat) (key : Bool)
  | corridor (routes : List (Nat × Nat))
deriving DecidableEq, Repr

/-- A defined sign (R96). `view` is the day-list view's expiry instant, absent in NORMAL view. `gone` holds the plates of
the desired composition that have left READY since it was computed (R134; notes/assumptions/23.md). -/
structure Sign where
  role : SignRole
  view : Option Nat
  primary : Option PrimaryRef
  desired : Composition
  gone : List Nat
deriving DecidableEq, Repr

/-- The Resolver: signs under the key 32 × trunk + position, and the hall numbers whose doors-closed copy is ACTIVE (R103)
and whose mismatch value is true (R123). -/
structure Resolver where
  signs : Table Sign
  doors : List Nat
  mismatch : List Nat
deriving DecidableEq, Repr

/-! ### Dispatcher (R126–R154) -/

/-- The link states (R127). -/
inductive LinkState | absent | present | blocked
deriving DecidableEq, Repr

/-- The QUERY due of a panel record (R126). -/
inductive QueryDue | none | adopt | overdue
deriving DecidableEq, Repr

/-- What a slot of the mirror holds (R126). -/
inductive SlotState
  | free
  | filling (plate blocks : Nat)
  | loaded (plate blocks : Nat)
deriving DecidableEq, Repr

/-- A slot record: what it holds and its last-used stamp (R126). -/
structure Slot where
  state : SlotState
  stamp : Nat
deriving DecidableEq, Repr

/-- A composition sent and awaiting DONE, with its SHOW time and overdue deadline (R126, R140). -/
structure PendingShow where
  comp : Composition
  showTime : Nat
  deadline : Option Nat
deriving DecidableEq, Repr

/-- A record's place in its trunk's queue: class, queued-since, and the order of joining among equals (R129). -/
structure QueuePlace where
  urgent : Bool
  since : Nat
  seq : Nat
deriving DecidableEq, Repr

/-- A panel record (R126). `mirror` lists slots 1 to 8. -/
structure Panel where
  link : LinkState
  shown : Option Composition
  awaiting : Option PendingShow
  query : QueryDue
  credit : Int
  failures : Nat
  mirror : List Slot
  queue : Option QueuePlace
deriving DecidableEq, Repr

/-- The Dispatcher: the panel records under the signs' keys and the next join number (R126, R129). -/
structure Dispatcher where
  panels : Table Panel
  nextJoin : Nat
deriving DecidableEq, Repr

/-! ### Trunk Controllers (R155–R180) -/

/-- The trunk states (R155). -/
inductive TrunkState | off | counting | running | faulted
deriving DecidableEq, Repr

/-- A LOAD run in flight (R155, R167, R168). -/
structure LoadRun where
  position : Nat
  slot : Nat
  plate : Nat
  first : Nat
  planned : Nat
  groupEnd : Nat
  blocks : Nat
  acked : Nat
deriving DecidableEq, Repr

/-- The exchange in flight (R155, R161). COUNT holds the good replies so far. -/
inductive Exchange
  | count (found : List ChainEntry)
  | query (position : Nat)
  | load (run : LoadRun)
  | showing (position : Nat) (comp : Composition)
  | call
  | probe
deriving DecidableEq, Repr

/-- The kind of a dispatch step (R132). -/
inductive StepKind
  | feed (slot plate first blocks : Nat)
  | showing (comp : Composition) (cost : Int)
deriving DecidableEq, Repr

/-- The step in flight of a trunk, with its orphan mark (R152) and its release mark (R151). -/
structure DispatchStep where
  position : Nat
  kind : StepKind
  orphaned : Bool
  release : Bool
deriving DecidableEq, Repr

/-- A recovery timer: running to an instant, or due (R155, R166). -/
inductive Recovery | running (ends : Nat) | due
deriving DecidableEq, Repr

/-- A trunk record (R155), with the levels of its attention lines (R171) and the arbiter's wake mark (R177;
notes/assumptions/15.md). -/
structure Trunk where
  state : TrunkState
  probing : Bool
  stopPending : Bool
  rewalkPending : Bool
  chainCount : Nat
  chainTable : List ChainEntry
  walkPosition : Nat
  exchange : Option Exchange
  step : Option DispatchStep
  probeDue : Bool
  probeInterval : Option Nat
  recovery : Table Recovery
  attention : Attention
  wake : Bool
deriving DecidableEq, Repr

/-- Attention lines all inactive. -/
def quietLines : Attention := ⟨false, false, false, false⟩

/-- A trunk record after a full reset (R179). -/
def Trunk.reset : Trunk :=
  ⟨.off, false, false, false, 0, [], 0, none, none, false, none, [], quietLines, false⟩

/-! ### Health Monitor (R181–R200) -/

/-- The state of a class, GRACE with the instant it ends (R182). -/
inductive ClassState | disarmed | grace (ends : Nat) | armed
deriving DecidableEq, Repr

/-- A condition record's name: object and condition (R181). -/
structure CondKey where
  object : HealthObject
  condition : Condition
deriving DecidableEq, Repr

/-- The common length and samples taken of the 32 WALL windows and the count of each wall (R184, R186). -/
structure WallWindows where
  length : Nat
  taken : Nat
  counts : Table Nat
deriving DecidableEq, Repr

/-- The two line windows of a trunk, which start and end together, and the latest k (R185, R186). -/
structure LineWindow where
  length : Nat
  taken : Nat
  short : Nat
  opens : Nat
  latestK : Nat
deriving DecidableEq, Repr

/-- A trunk's line windows after a full reset (R200). -/
def LineWindow.reset : LineWindow := ⟨4, 0, 0, 0, 0⟩

/-- The Health Monitor: the condition records whose live flag and whose held flag is set, each list in the order of the held
list (R198); the windows, the window settings, the class records, the deselected condition kinds, the summary. -/
structure Health where
  live : List CondKey
  held : List CondKey
  wallWindows : WallWindows
  lineWindows : Table LineWindow
  wallSetting : Nat
  lineSetting : Nat
  panelClass : ClassState
  trunkClass : ClassState
  layoutClass : ClassState
  deselected : List Condition
  summary : Bool
deriving DecidableEq, Repr

/-! ### The whole part -/

/-- The pins that act on the whole part: the RESET pin, the power, and the strap levels sampled at the last full reset (R1,
R16). `restarts` is the model's own: it counts the resets of RESTART FULL, at each of which the straps show levels that no row
carries (notes/assumptions/8.md). -/
structure Pins where
  resetHeld : Bool
  powerAbsent : Bool
  strap1 : Level
  strap0 : Level
  restarts : Nat
deriving DecidableEq, Repr

/-- The state of the part, the queue of waiting commands, and the notices produced inside the running command (empty
between commands). -/
structure State where
  pending : List Instr
  now : Nat
  nextSample : Nat
  nextAccrual : Nat
  outbox : List Notice
  pins : Pins
  link : Link
  clock : Clock
  table : Timetable
  layout : Layout
  sense : Sense
  plates : PlateStore
  resolver : Resolver
  dispatcher : Dispatcher
  trunks : Table Trunk
  health : Health
deriving DecidableEq, Repr

/-- The link after a full reset with READY on the line (R16; notes/assumptions/7.md). -/
def Link.reset (bitRate : Nat) (cause : ResetCause) : Link where
  bitRate := bitRate
  receiver := ⟨.hunt, [], 0⟩
  queue := []
  service := []
  line := .notice (.ready cause)
  lastSent := .none
  notices := []
  overflow := false
  readySent := false

/-- The venue clock after a full reset (R18). -/
def Clock.reset : Clock := ⟨false, 0, 0, 0, none⟩

/-- The Timetable after a full reset (R43). -/
def Timetable.reset : Timetable := ⟨[], 1, []⟩

/-- The Layout Unit after a full reset (R64). -/
def Layout.reset : Layout := ⟨[], [], [], Config.settleReset⟩

/-- The Plate Store after a full reset (R95). -/
def PlateStore.reset : PlateStore := ⟨[], [], Config.pages, none, ⟨0, 0, 0, 0, 0, 0, 0⟩⟩

/-- The Health Monitor after a full reset (R200). -/
def Health.reset : Health where
  live := []
  held := []
  wallWindows := ⟨8, 0, []⟩
  lineWindows := []
  wallSetting := 8
  lineSetting := 4
  panelClass := .disarmed
  trunkClass := .disarmed
  layoutClass := .disarmed
  deselected := []
  summary := false

/-- The part right after the full reset of power-on, both baud straps low, no pin driven. -/
def State.reset : State where
  pending := []
  now := 0
  nextSample := Config.second
  nextAccrual := Config.accrualTime
  outbox := []
  pins := ⟨false, false, .low, .low, 0⟩
  link := Link.reset 57600 .powerOn
  clock := Clock.reset
  table := Timetable.reset
  layout := Layout.reset
  sense := ⟨[], [], [], []⟩
  plates := PlateStore.reset
  resolver := ⟨[], [], []⟩
  dispatcher := ⟨[], 0⟩
  trunks := []
  health := Health.reset

end Sys2Proof.Machine
end

