-- ==== Sys2Proof/Machine/Ops.lean ====
section
/-! DEFINITION. The named operations every block uses: tables and sets of numbers, ordering, the page pool's bytes, time, the
production of notices, and access to the numbered records of the state. -/

namespace Sys2Proof.Machine

/-! ### Tables -/

/-- The record of a number, if it is listed. -/
def lookup {α : Type} : Table α → Nat → Option α
  | [], _ => none
  | (n, v) :: t, k => if n = k then some v else lookup t k

/-- The record of a number, or the value an unlisted number has. -/
def lookupD {α : Type} (t : Table α) (k : Nat) (d : α) : α := (lookup t k).getD d

/-- The table with the number's record set, numbers kept strictly rising. -/
def assign {α : Type} : Table α → Nat → α → Table α
  | [], k, v => [(k, v)]
  | (n, w) :: t, k, v =>
    if k < n then (k, v) :: (n, w) :: t else if n = k then (k, v) :: t else (n, w) :: assign t k v

/-- The table without the number. -/
def erase {α : Type} (t : Table α) (k : Nat) : Table α := t.filter fun e => e.1 != k

/-- The table with the number's record set; a record equal to the unlisted value is not listed. -/
def assignD {α : Type} [DecidableEq α] (t : Table α) (k : Nat) (v d : α) : Table α :=
  if v = d then erase t k else assign t k v

/-- The table with every record changed by its number. -/
def mapTable {α : Type} (f : Nat → α → α) (t : Table α) : Table α := t.map fun e => (e.1, f e.1 e.2)

/-- The listed numbers in rising order. -/
def numbers {α : Type} (t : Table α) : List Nat := t.map fun e => e.1

/-- Is the number listed? -/
def isListed {α : Type} (t : Table α) (k : Nat) : Bool := (lookup t k).isSome

/-- The numbers of a list rise strictly. -/
def rising : List Nat → Bool
  | [] => true
  | [_] => true
  | a :: b :: l => a < b && rising (b :: l)

/-- A table in canonical form: its numbers rise strictly. -/
def risingKeys {α : Type} (t : Table α) : Bool := rising (numbers t)

/-! ### Sets of numbers -/

/-- The set with the number in it. -/
def insertNumber : List Nat → Nat → List Nat
  | [], k => [k]
  | n :: l, k => if k < n then k :: n :: l else if n = k then n :: l else n :: insertNumber l k

/-- The set with the number in it or out of it. -/
def putNumber (l : List Nat) (k : Nat) (b : Bool) : List Nat :=
  if b then insertNumber l k else l.filter fun n => n != k

/-! ### Order -/

/-- Lexicographic order on lists of numbers. -/
def lexLt : List Nat → List Nat → Bool
  | [], [] => false
  | [], _ :: _ => true
  | _ :: _, [] => false
  | a :: l, b :: m => if a < b then true else if b < a then false else lexLt l m

/-- The first member with the least key. -/
def leastBy {α : Type} (key : α → List Nat) : List α → Option α
  | [] => none
  | a :: l =>
    match leastBy key l with
    | none => some a
    | some b => if lexLt (key b) (key a) then some b else some a

/-- Insertion of a member before the first one with a greater key. -/
def insertBy {α : Type} (key : α → List Nat) (a : α) : List α → List α
  | [] => [a]
  | b :: l => if lexLt (key a) (key b) then a :: b :: l else b :: insertBy key a l

/-- The list in rising order of key, members of equal key in their order. -/
def sortBy {α : Type} (key : α → List Nat) (l : List α) : List α :=
  l.foldl (fun acc a => insertBy key a acc) []

/-- Numbers in rising order. -/
def sortNumbers (l : List Nat) : List Nat := sortBy (fun n => [n]) l

/-- No number is listed twice. -/
def allDistinct : List Nat → Bool
  | [] => true
  | a :: l => !l.contains a && allDistinct l

/-- The numbers 1 to n. -/
def upTo (n : Nat) : List Nat := (List.range n).map (· + 1)

/-- A number lies within 1–n. -/
def within (n k : Nat) : Bool := 1 ≤ k && k ≤ n

/-- Whole seconds, rounded up (R63, R99, R190). -/
def secondsUp (ms : Nat) : Nat := (ms + 999) / 1000

/-- Whole seconds elapsed, rounded down (R128; notes/assumptions/21.md). -/
def secondsDown (ms : Nat) : Nat := ms / 1000

/-- a / b rounded up (R79, R80). -/
def ceilDiv (a b : Nat) : Nat := (a + b - 1) / b

/-! ### The page pool's bytes -/

/-- What an unlisted byte of the pool reads as (notes/assumptions/17.md). -/
def poolDefault : BitVec 8 := 0

/-- The byte at an address of the pool. -/
def readByte (m : List Host.Cell) (a : Nat) : BitVec 8 := lookupD m a poolDefault

/-- The pool with one byte written, in canonical form. -/
def writeByte (m : List Host.Cell) (a : Nat) (b : BitVec 8) : List Host.Cell := assignD m a b poolDefault

/-- The pool's canonical form: addresses strictly rising, no listed byte equal to what an unlisted one reads as. -/
def poolWf (m : List Host.Cell) : Bool := risingKeys m && m.all fun c => c.2 != poolDefault

/-! ### Keys of signs and panels -/

/-- The key of a sign or panel. -/
def signKey (trunk position : Nat) : Nat := 32 * trunk + position

/-- The trunk of a key. -/
def keyTrunk (k : Nat) : Nat := k / 32

/-- The position of a key. -/
def keyPosition (k : Nat) : Nat := k % 32

/-! ### Time and notices -/

/-- The timebase stands at the given instant at least (notes/assumptions/4.md). -/
def reachInstant (ends : Nat) (s : State) : State := { s with now := max s.now ends }

/-- A notice is produced; it joins the notice queue as the running command ends (R12; notes/assumptions/16.md). -/
def produce (n : Notice) (s : State) : State := { s with outbox := s.outbox ++ [n] }

/-! ### Records -/

/-- A trunk's record. -/
def trunkOf (s : State) (t : Nat) : Trunk := lookupD s.trunks t Trunk.reset

/-- The state with a trunk's record set. -/
def setTrunk (t : Nat) (x : Trunk) (s : State) : State := { s with trunks := assignD s.trunks t x Trunk.reset }

/-- The state with a trunk's record changed. -/
def modifyTrunk (t : Nat) (f : Trunk → Trunk) (s : State) : State := setTrunk t (f (trunkOf s t)) s

/-- The Dispatcher, or another event of R177, tells a trunk to decide again. -/
def wakeTrunk (t : Nat) (s : State) : State := modifyTrunk t (fun x => { x with wake := true }) s

/-- A sense line's record. -/
def lineOf (s : State) (l : Nat) : Line := lookupD s.sense.lines l Line.reset

/-- The state with a sense line's record set. -/
def setLine (l : Nat) (x : Line) (s : State) : State :=
  { s with sense := { s.sense with lines := assignD s.sense.lines l x Line.reset } }

/-- A sign's record. -/
def signAt (s : State) (k : Nat) : Option Sign := lookup s.resolver.signs k

/-- The state with a sign's record set. -/
def setSign (k : Nat) (x : Sign) (s : State) : State :=
  { s with resolver := { s.resolver with signs := assign s.resolver.signs k x } }

/-- A panel's record. -/
def panelAt (s : State) (k : Nat) : Option Panel := lookup s.dispatcher.panels k

/-- The state with a panel's record set. -/
def setPanel (k : Nat) (x : Panel) (s : State) : State :=
  { s with dispatcher := { s.dispatcher with panels := assign s.dispatcher.panels k x } }

/-- The state with a panel's record changed, if there is one. -/
def modifyPanel (k : Nat) (f : Panel → Panel) (s : State) : State :=
  match panelAt s k with
  | none => s
  | some p => setPanel k (f p) s

/-- A plate's record, none while EMPTY. -/
def plateAt (s : State) (id : Nat) : Option Plate := lookup s.plates.plates id

/-- A plate is READY (R79, R85). -/
def isReady (s : State) (id : Nat) : Bool :=
  match plateAt s id with
  | some p => p.state == .ready
  | none => false

/-- The state with a plate's record set. -/
def setPlate (id : Nat) (x : Plate) (s : State) : State :=
  { s with plates := { s.plates with plates := assign s.plates.plates id x } }

/-- A trunk's line windows. -/
def lineWindowOf (s : State) (t : Nat) : LineWindow := lookupD s.health.lineWindows t LineWindow.reset

/-- The hall that lists a segment (R44). -/
def hallOfSegment (s : State) (g : Nat) : Option Nat :=
  (s.layout.halls.find? fun e => e.2.segments.contains g).map fun e => e.1

/-- The current venue minute N (R18). -/
def venueMinute (s : State) : Nat := s.clock.day * Config.dayMinutes + s.clock.minute

end Sys2Proof.Machine
end

