-- ==== Sys2Proof/Machine/Operands.lean ====
section
/-! DEFINITION. Operand forms: how numbers, enumerations and records travel as bytes (spec/10): field widths, the digest
(R201), Control Link frames (R2, R3), the composition encoding (R204), trunk frames (R205, R206), enumeration codes. -/

namespace Sys2Proof.Machine

/-! ### Field widths -/

/-- One byte. -/
def u8 (n : Nat) : List Byte := [BitVec.ofNat 8 n]

/-- Two bytes, most significant first. -/
def u16 (n : Nat) : List Byte := [BitVec.ofNat 8 (n / 256), BitVec.ofNat 8 n]

/-- Four bytes, most significant first. -/
def u32 (n : Nat) : List Byte :=
  [BitVec.ofNat 8 (n / 16777216), BitVec.ofNat 8 (n / 65536), BitVec.ofNat 8 (n / 256), BitVec.ofNat 8 n]

/-- A flag: false 0, true 1. -/
def flag (b : Bool) : List Byte := if b then [1] else [0]

/-- A digest. -/
def digestBytes (d : Digest) : List Byte := u16 d.toNat

/-- A signed number in one byte, two's complement. -/
def i8 (n : Int) : List Byte := [BitVec.ofInt 8 n]

/-- A two-byte field read. -/
def nat16 (hi lo : Byte) : Nat := hi.toNat * 256 + lo.toNat

/-- A four-byte field read. -/
def nat32 (a b c d : Byte) : Nat := ((a.toNat * 256 + b.toNat) * 256 + c.toNat) * 256 + d.toNat

/-- A digest field read. -/
def readDigest (hi lo : Byte) : Digest := BitVec.ofNat 16 (nat16 hi lo)

/-- A list in a reply: its count, then its items. -/
def listBytes {α : Type} (f : α → List Byte) (l : List α) : List Byte := u8 l.length ++ l.flatMap f

/-! ### The digest (R201) -/

/-- One shift of the digest register. -/
def digestShift (r : Digest) : Digest := if r.msb then (r <<< 1) ^^^ 0x1021 else r <<< 1

/-- One covered byte taken into the digest register. -/
def digestByte (r : Digest) (b : Byte) : Digest :=
  (List.range 8).foldl (fun x _ => digestShift x) (r ^^^ (b.zeroExtend 16 <<< 8))

/-- The digest of the covered bytes. -/
def digest (bs : List Byte) : Digest := bs.foldl digestByte 0xFFFF

/-! ### Enumeration codes -/

/-- The status codes (spec/10 The reply). -/
def statusCode : Status → Nat
  | .ok => 0x00 | .adjusted => 0x01 | .unknownRequest => 0x02 | .badLength => 0x03 | .outOfRange => 0x04
  | .notFound => 0x05 | .exists => 0x06 | .full => 0x07 | .inUse => 0x08 | .overlap => 0x09 | .sequence => 0x0A
  | .digestMismatch => 0x0B | .notReady => 0x0C | .busy => 0x0D | .wrongMode => 0x0E

/-- Wall state codes. -/
def wallStateCode : WallState → Nat
  | .unknown => 0 | .opened => 1 | .closed => 2

/-- Raw wall state codes. -/
def rawStateCode : RawState → Nat
  | .opened => 1 | .closed => 2 | .moving => 3 | .conflict => 4

/-- Level codes. -/
def levelCode : Level → Nat
  | .low => 0 | .high => 1

/-- A filtered level in SENSE_READ; NONE when absent (R76; notes/assumptions/20.md). -/
def filteredCode : Option Level → Nat
  | some l => levelCode l
  | none => 2

/-- Edge select codes. -/
def edgeCode : EdgeSelect → Nat
  | .rise => 1 | .fall => 2 | .both => 3

/-- Plate state codes of the states other than EMPTY. -/
def plateStateCode : PlateState → Nat
  | .filling => 1 | .ready => 2 | .doomed => 3

/-- Trunk state codes. -/
def trunkStateCode : TrunkState → Nat
  | .off => 0 | .counting => 1 | .running => 2 | .faulted => 3

/-- Health class codes. -/
def classCode : HealthClass → Nat
  | .panel => 1 | .trunk => 2 | .layout => 3

/-- Class state codes. -/
def classStateCode : ClassState → Nat
  | .disarmed => 0 | .grace _ => 1 | .armed => 2

/-- Condition codes. -/
def conditionCode : Condition → Nat
  | .silent => 1 | .overdue => 2 | .mismatch => 3 | .panelFault => 4 | .supply => 5 | .lineShort => 6 | .lineOpen => 7
  | .chainChanged => 8 | .wallConflict => 9 | .layoutMismatch => 10

/-- The ten condition kinds in the order of their codes. -/
def allConditions : List Condition :=
  [.silent, .overdue, .mismatch, .panelFault, .supply, .lineShort, .lineOpen, .chainChanged, .wallConflict,
   .layoutMismatch]

/-- The condition of a code. -/
def conditionOf (code : Nat) : Option Condition := allConditions.find? fun c => conditionCode c == code

/-- The class of a code. -/
def classOf (code : Nat) : Option HealthClass :=
  if code = 1 then some .panel else if code = 2 then some .trunk else if code = 3 then some .layout else none

/-- The three bytes that name an object (spec/10 Request payloads). -/
def objectBytes : HealthObject → List Byte
  | .panel t p => u8 1 ++ u8 t ++ u8 p
  | .trunk t => u8 2 ++ u8 0 ++ u8 t
  | .wall w => u8 3 ++ u8 0 ++ u8 w
  | .hall h => u8 4 ++ u8 0 ++ u8 h

/-- The object three bytes name, if it exists (R194). The byte a of a trunk, wall or hall has no meaning
(notes/assumptions/28.md). -/
def objectOf (kind a b : Nat) : Option HealthObject :=
  if kind = 1 then (if within Config.trunks a && within Config.positions b then some (.panel a b) else none)
  else if kind = 2 then (if within Config.trunks b then some (.trunk b) else none)
  else if kind = 3 then (if within Config.walls b then some (.wall b) else none)
  else if kind = 4 then (if within Config.halls b then some (.hall b) else none)
  else none

/-- READY's cause codes (spec/10 Notices). -/
def causeCode : ResetCause → Nat
  | .powerOn => 1 | .pin => 2 | .restart => 3

/-- Line-test result codes. -/
def probeCode : ProbeResult → Nat
  | .ok => 0 | .short => 1 | .openAt _ => 2

/-- k of a line test, 0 unless the result is OPEN (R175). -/
def probeK : ProbeResult → Nat
  | .openAt k => k
  | .ok => 0
  | .short => 0

/-! ### Control Link frames -/

/-- A frame on the line: SYNC, LENGTH, body, CHECK (R2, R3). -/
def linkFrame (kind tag : Byte) (payload : List Byte) : List Byte :=
  let covered := u16 (payload.length + 2) ++ kind :: tag :: payload
  0xA5 :: covered ++ digestBytes (digest covered)

/-- The bytes of a reply (spec/10 The reply). -/
def replyFrame (r : Reply) : List Byte :=
  linkFrame 0x80 r.tag
    (u8 (statusCode r.status) ++ u8 ((if r.summary then 1 else 0) + (if r.clockSet then 2 else 0)) ++ r.payload)

/-- A notice's KIND (spec/10 Notices). -/
def noticeKind : Notice → Byte
  | .ready _ => 0xC0 | .linkDropped _ => 0xC1 | .wallChange _ _ _ => 0xC2 | .senseEdge _ _ => 0xC3
  | .health _ _ _ _ _ => 0xC4 | .poolAvailable _ => 0xC5 | .countDone _ _ => 0xC6 | .probeDone _ _ => 0xC7

/-- The three bytes of a chain table entry. -/
def chainEntryBytes (e : ChainEntry) : List Byte := [e.kind, e.slotCount, e.keyFitted]

/-- A notice's payload (spec/10 Notices). -/
def noticePayload : Notice → List Byte
  | .ready c => u8 (causeCode c)
  | .linkDropped t => [t]
  | .wallChange h w s => u8 h ++ u8 w ++ u8 (wallStateCode s)
  | .senseEdge l a => u8 l ++ flag a
  | .health o c live held k =>
    objectBytes o ++ u8 (conditionCode c) ++ u8 ((if live then 1 else 0) + (if held then 2 else 0)) ++ u8 k
  | .poolAvailable n => u16 n
  | .countDone t tbl => u8 t ++ u8 tbl.length ++ tbl.flatMap chainEntryBytes
  | .probeDone t r => u8 t ++ u8 (probeCode r) ++ u8 (probeK r)

/-- The bytes of a notice, tag 0. -/
def noticeFrame (n : Notice) : List Byte := linkFrame (noticeKind n) 0 (noticePayload n)

/-! ### The composition encoding (R204) -/

/-- Composition kind codes. -/
def compKindCode : CompKind → Nat
  | .blank => 0 | .nameOnly => 1 | .session => 2 | .setupPending => 3 | .movedNotice => 4 | .cancelledNotice => 5
  | .directory => 6 | .dayList => 7

/-- Phase codes. -/
def phaseCode : Phase → Nat
  | .none => 0 | .upcoming => 1 | .doors => 2 | .underway => 3 | .closing => 4

/-- Time kind codes. -/
def timeKindCode : TimeKind → Nat
  | .none => 0 | .clock => 1 | .countdown => 2

/-- The six layers, slot 1 first. -/
def layerList (y : Layers) : List Nat := [y.l1, y.l2, y.l3, y.l4, y.l5, y.l6]

/-- Time kind, value and day offset. -/
def timeBytes (t : TimeField) : List Byte := u8 (timeKindCode t.kind) ++ u16 t.value ++ i8 t.offset

/-- A directory line. -/
def lineBytes (l : DirLine) : List Byte := u8 l.arrow ++ u8 (phaseCode l.phase) ++ timeBytes l.time

/-- A list in a fixed number of places, the places beyond it zero in every byte. -/
def padded {α : Type} (places width : Nat) (f : α → List Byte) (l : List α) : List Byte :=
  l.flatMap f ++ List.replicate ((places - l.length) * width) 0

/-- The 52 bytes of a composition. -/
def encodeComposition (c : Composition) : List Byte :=
  u8 (compKindCode c.kind) ++ (layerList c.layers).flatMap u8 ++ u8 (phaseCode c.phase) ++ timeBytes c.time ++
    u8 (c.progress.getD 0xFF) ++ u16 (c.nextStart.getD 0xFFFF) ++ u8 c.lines.length ++ flag c.more ++
    padded 4 6 lineBytes c.lines ++ u8 c.starts.length ++ padded 5 2 u16 c.starts

/-- The composition digest d(c) (R204). -/
def compositionDigest (c : Composition) : Digest := digest (encodeComposition c)

/-! ### Trunk frames (R205) -/

/-- A trunk frame with its check. -/
def trunkFrame (position kind : Nat) (body : List Byte) : List Byte :=
  let covered := u8 position ++ u8 kind ++ u16 body.length ++ body
  covered ++ digestBytes (digest covered)

/-- Position, exchange kind and body of a complete frame whose check is correct (R161). -/
def readTrunkFrame : List Byte → Option (Nat × Nat × List Byte)
  | p :: k :: hi :: lo :: rest =>
    let n := nat16 hi lo
    match rest.drop n with
    | [c1, c0] =>
      if digest (p :: k :: hi :: lo :: rest.take n) == readDigest c1 c0 then
        some (p.toNat, k.toNat, rest.take n)
      else none
    | _ => none
  | _ => none

/-- The exchange kind codes. -/
def kindCount : Nat := 1
def kindQuery : Nat := 2
def kindLoad : Nat := 3
def kindShow : Nat := 4
def kindCall : Nat := 5

/-- The panel status record (spec/10 The panel status record): shown digest if valid, and the eight slots' plate id and
digest. -/
structure PanelStatus where
  shown : Option Digest
  slots : List (Nat × Digest)
deriving DecidableEq, Repr

/-- The slots of a status record. -/
def readSlots : List Byte → List (Nat × Digest)
  | p :: hi :: lo :: rest => (p.toNat, readDigest hi lo) :: readSlots rest
  | _ => []

/-- A QUERY reply's body, 28 bytes. The panel kind byte is read by no rule of the part. -/
def readPanelStatus (body : List Byte) : Option PanelStatus :=
  match body with
  | _kind :: flags :: hi :: lo :: rest =>
    if rest.length = 24 then
      some ⟨if flags.getLsbD 0 then some (readDigest hi lo) else none, readSlots rest⟩
    else none
  | _ => none

/-- A panel's report as a CALL carries it (R171, R173, R206). -/
inductive PanelReport
  | key
  | done (digest : Digest)
  | refreshFailed
  | slotCorrupt (slot : Nat)
  | tooCold
  | supply
deriving DecidableEq, Repr

/-- The report of a level, code and data; none for a level outside 4–7. A FAULT code outside 1–3 is REFRESH_FAILED
(R206). -/
def readReport (level code data : Nat) : Option PanelReport :=
  if level = 7 then some .supply
  else if level = 6 then
    some (if code = 2 then .slotCorrupt data else if code = 3 then .tooCold else .refreshFailed)
  else if level = 5 then some .key
  else if level = 4 then some (.done (BitVec.ofNat 16 data))
  else none

end Sys2Proof.Machine
end

