-- ==== Sys2Proof/Machine/Flags.lean ====
section
/-! DEFINITION. Flags: the live and held flags of the Health Monitor's condition records, the summary, and the lamps that the
live LAYOUT_MISMATCH and the reconfiguring indication drive (R73, R181–R196). -/

namespace Sys2Proof.Machine

/-- The class of a condition (R181). -/
def conditionClass : Condition → HealthClass
  | .silent => .panel | .overdue => .panel | .mismatch => .panel | .panelFault => .panel | .supply => .panel
  | .lineShort => .trunk | .lineOpen => .trunk | .chainChanged => .trunk
  | .wallConflict => .layout | .layoutMismatch => .layout

/-- The conditions of an object, in the order of the conditions table (R181, R197). -/
def conditionsOf : HealthObject → List Condition
  | .panel _ _ => [.silent, .overdue, .mismatch, .panelFault, .supply]
  | .trunk _ => [.lineShort, .lineOpen, .chainChanged]
  | .wall _ => [.wallConflict]
  | .hall _ => [.layoutMismatch]

/-- The order of the held list (R198): panels by trunk, position, condition; trunks; walls; halls. -/
def rank (k : CondKey) : List Nat :=
  match k.object with
  | .panel t p => [1, t, p, conditionCode k.condition]
  | .trunk t => [2, t, 0, conditionCode k.condition]
  | .wall w => [3, w, 0, conditionCode k.condition]
  | .hall h => [4, h, 0, conditionCode k.condition]

/-- A set of condition records with one put in or out. -/
def putKey (l : List CondKey) (k : CondKey) (b : Bool) : List CondKey :=
  if b then (if l.contains k then l else insertBy rank k l) else l.filter fun x => x != k

/-- A live flag. -/
def isLive (s : State) (o : HealthObject) (c : Condition) : Bool := s.health.live.contains ⟨o, c⟩

/-- A held flag. -/
def isHeld (s : State) (o : HealthObject) (c : Condition) : Bool := s.health.held.contains ⟨o, c⟩

/-- A condition kind's selection (R195). -/
def isSelected (s : State) (c : Condition) : Bool := !s.health.deselected.contains c

/-- A class record (R182). -/
def classState (s : State) : HealthClass → ClassState
  | .panel => s.health.panelClass
  | .trunk => s.health.trunkClass
  | .layout => s.health.layoutClass

/-- The state with a class record set. -/
def setClassState (c : HealthClass) (v : ClassState) (s : State) : State :=
  match c with
  | .panel => { s with health := { s.health with panelClass := v } }
  | .trunk => { s with health := { s.health with trunkClass := v } }
  | .layout => { s with health := { s.health with layoutClass := v } }

/-- The summary that the held flags and the selection give (R196). -/
def summaryOf (h : Health) : Bool := h.held.any fun k => !h.deselected.contains k.condition

/-- The summary recomputed (R196). -/
def recomputeSummary (s : State) : State := { s with health := { s.health with summary := summaryOf s.health } }

/-- ALERT is pulled low while the summary is true (R196). -/
def alertLow (s : State) : Bool := s.health.summary

/-- The latest k of a LINE_OPEN record, 0 for every other condition (R193). -/
def latestK (s : State) (o : HealthObject) (c : Condition) : Nat :=
  match o, c with
  | .trunk t, .lineOpen => (lineWindowOf s t).latestK
  | _, _ => 0

/-- The HEALTH notice of a record as it stands (R193). -/
def healthNotice (s : State) (o : HealthObject) (c : Condition) : Notice :=
  .health o c (isLive s o c) (isHeld s o c) (latestK s o c)

/-- A held flag is set, the summary recomputed, and a HEALTH notice produced for a selected condition (R191, R192). -/
def setHeld (o : HealthObject) (c : Condition) (s : State) : State :=
  let held := recomputeSummary { s with health := { s.health with held := putKey s.health.held ⟨o, c⟩ true } }
  if isSelected held c then produce (healthNotice held o c) held else held

/-- A live flag changes: in an ARMED class a rise sets a held flag that was clear (R183, R192). A hand-off that finds the
flag as asked changes nothing. -/
def setLive (o : HealthObject) (c : Condition) (v : Bool) (s : State) : State :=
  if isLive s o c = v then s
  else
    let moved := { s with health := { s.health with live := putKey s.health.live ⟨o, c⟩ v } }
    if v && classState moved (conditionClass c) == .armed && !isHeld moved o c then setHeld o c moved else moved

/-- A list of conditions of one object cleared, in order. -/
def clearConditions (o : HealthObject) (cs : List Condition) (s : State) : State :=
  cs.foldl (fun acc c => setLive o c false acc) s

/-! ### Lamps (R73) -/

/-- The drive of a hall's lamps. -/
def lampDrive (n : Sense) (h : Nat) : Bool := n.reconfiguring.contains h || n.mismatch.contains h

/-- A line with its drive recomputed if it is a LAMP of the hall. -/
def withDrive (h : Nat) (drive : Bool) (x : Line) : Line :=
  match x.mode with
  | .lamp g _ => if g = h then ⟨x.input, .lamp h drive⟩ else x
  | .off => x
  | .contact _ _ _ _ _ _ => x
  | .wall _ _ => x

/-- Every LAMP line of a hall recomputed. -/
def refreshLamps (h : Nat) (s : State) : State :=
  { s with sense := { s.sense with lines := mapTable (fun _ x => withDrive h (lampDrive s.sense h) x) s.sense.lines } }

/-- The Layout Unit hands a hall's reconfiguring indication to the Sense Unit (R61, R73). -/
def handReconfiguring (h : Nat) (v : Bool) (s : State) : State :=
  refreshLamps h { s with sense := { s.sense with reconfiguring := putNumber s.sense.reconfiguring h v } }

/-- The Resolver hands LAYOUT_MISMATCH of a hall; a change of the live flag goes on to the lamps (R123, R183, R189). -/
def handMismatch (h : Nat) (v : Bool) (s : State) : State :=
  if isLive s (.hall h) .layoutMismatch = v then s
  else
    let live := setLive (.hall h) .layoutMismatch v s
    refreshLamps h { live with sense := { live.sense with mismatch := putNumber live.sense.mismatch h v } }

/-! ### Windows (R186) -/

/-- How a window of W samples with a count judges the live flag: set, cleared, or left as it was. -/
def judgeWindow (w count : Nat) : Option Bool :=
  if 2 * count > w then some true else if 4 * count ≤ w then some false else none

/-- A window's end acts on its record's live flag. -/
def applyJudgement (o : HealthObject) (c : Condition) (v : Option Bool) (s : State) : State :=
  match v with
  | some b => setLive o c b s
  | none => s

end Sys2Proof.Machine
end

