-- ==== Sys2Proof/Machine/PagePool.lean ====
section
/-! DEFINITION. The page pool and the plate records' shared operations: pages taken and returned, the pool watch, content
bytes and trunk blocks, references, in-flight runs (R78–R80, R84, R88, R90). -/

namespace Sys2Proof.Machine

/-- Pages a plate of a size needs (R79). -/
def pagesFor (size : Nat) : Nat := ceilDiv size Config.pageSize

/-- A plate's number of trunk blocks (R80). -/
def blocksFor (size : Nat) : Nat := ceilDiv size Config.blockSize

/-- A page is held by some plate (R78). -/
def pageHeld (s : State) (page : Nat) : Bool := s.plates.plates.any fun e => e.2.pages.contains page

/-- The n lowest-numbered pages from `page` on that are not held, among the next `fuel` pages (R78). -/
def lowestFree (held : Nat → Bool) : (fuel page n : Nat) → List Nat
  | 0, _, _ => []
  | _ + 1, _, 0 => []
  | fuel + 1, page, n + 1 =>
    if held page then lowestFree held fuel (page + 1) (n + 1) else page :: lowestFree held fuel (page + 1) n

/-- The pages a plate takes (R78). -/
def takePages (s : State) (n : Nat) : List Nat := lowestFree (pageHeld s) Config.pages 1 n

/-- The free count rises and is judged against the pool watch (R90). -/
def raiseFree (n : Nat) (s : State) : State :=
  let free := s.plates.freeCount + n
  let risen : State := { s with plates := { s.plates with freeCount := free } }
  match s.plates.watch with
  | some w =>
    if w ≤ free then produce (.poolAvailable free) { risen with plates := { risen.plates with watch := none } } else risen
  | none => risen

/-- A plate becomes EMPTY and its pages return to the free set (R78). -/
def freePlate (id : Nat) (s : State) : State :=
  match plateAt s id with
  | none => s
  | some p => raiseFree p.pages.length { s with plates := { s.plates with plates := erase s.plates.plates id } }

/-- The pool address of a plate's byte at an offset (R80). -/
def contentAddress (p : Plate) (offset : Nat) : Nat :=
  (p.pages.getD (offset / Config.pageSize) 1 - 1) * Config.pageSize + offset % Config.pageSize

/-- A plate's byte at an offset (R80). -/
def contentByte (s : State) (p : Plate) (offset : Nat) : Byte := readByte s.plates.pool (contentAddress p offset)

/-- A plate's content, its declared size of bytes in ascending offset (R80). -/
def content (s : State) (p : Plate) : List Byte := (List.range p.size).map (contentByte s p)

/-- Bytes written from an offset on (R82). -/
def writeContent (p : Plate) : (offset : Nat) → List Byte → List Host.Cell → List Host.Cell
  | _, [], m => m
  | offset, b :: bs, m => writeContent p (offset + 1) bs (writeByte m (contentAddress p offset) b)

/-- Trunk block b of a plate: offsets (b − 1) × 64 up to the lesser of b × 64 − 1 and size − 1 (R80). -/
def trunkBlock (s : State) (p : Plate) (b : Nat) : List Byte :=
  (List.range (min (p.size - (b - 1) * Config.blockSize) Config.blockSize)).map fun i =>
    contentByte s p ((b - 1) * Config.blockSize + i)

/-- A count of references changed by those released and those taken (R84). -/
def changedRefs (count released taken : Nat) : Nat := count + taken - released

/-- Every plate record changed by its id. -/
def mapPlates (f : Nat → Plate → Plate) (s : State) : State :=
  { s with plates := { s.plates with plates := mapTable f s.plates.plates } }

/-- Layout references released on one plate and taken on another (R54, R84). -/
def moveLayoutRef (released taken : Nat) (s : State) : State :=
  mapPlates (fun id p =>
    let refs := changedRefs p.layoutRefs (if id = released then 1 else 0) (if id = taken then 1 else 0)
    { p with layoutRefs := refs }) s

/-- The timetable references a list of entries holds on a plate (R36). -/
def timetableRefsOf (es : List Entry) (id : Nat) : Nat :=
  es.foldl (fun n e => n + (if e.title = id then 1 else 0) + (if e.banner = id then 1 else 0)) 0

/-- The timetable references of a table replaced by those of another (R36, R39). -/
def moveTimetableRefs (before after : List Entry) (s : State) : State :=
  mapPlates (fun id p =>
    let refs := changedRefs p.timetableRefs (timetableRefsOf before id) (timetableRefsOf after id)
    { p with timetableRefs := refs }) s

/-- The seven settings in order (R92). -/
def settingsList (x : Settings) : List Nat := [x.untitled, x.priv, x.idle, x.setup, x.doorsClosed, x.moved, x.cancelled]

/-- The settings that name a plate (R92). -/
def settingsRefsOf (x : Settings) (id : Nat) : Nat := (settingsList x).countP fun v => v == id

/-- A LOAD run of a plate begins (R88). -/
def beginRun (id : Nat) (s : State) : State :=
  match plateAt s id with
  | none => s
  | some p => setPlate id { p with inFlight := p.inFlight + 1 } s

/-- A LOAD run of a plate ends; a DOOMED plate whose count falls to 0 becomes EMPTY (R88). -/
def endRun (id : Nat) (s : State) : State :=
  match plateAt s id with
  | none => s
  | some p =>
    let fallen := setPlate id { p with inFlight := p.inFlight - 1 } s
    if p.state = .doomed ∧ p.inFlight ≤ 1 then freePlate id fallen else fallen

end Sys2Proof.Machine
end

