-- ==== Sys2Proof/Machine/Panels.lean ====
section
/-! DEFINITION. The Dispatcher: panel records, queue membership, steps and their outcomes, adoption, failures and blocking,
reports, releases and teardown (R126–R154). -/

namespace Sys2Proof.Machine

/-- The health object of a key. -/
def panelObject (k : Nat) : HealthObject := .panel (keyTrunk k) (keyPosition k)

/-- The keys of a trunk's panel records, positions rising. -/
def panelsOn (s : State) (t : Nat) : List Nat := (numbers s.dispatcher.panels).filter fun k => keyTrunk k == t

/-- The target of a record (R128). -/
def target (p : Panel) : Option Composition :=
  match p.awaiting with
  | some w => some w.comp
  | none => p.shown

/-- The content states (R128), coded in their order. -/
inductive ContentState | committing | unknown | inSync | stale
deriving DecidableEq, Repr

/-- A record's content state against the desired composition (R128). -/
def contentState (p : Panel) (desired : Composition) : ContentState :=
  if p.awaiting.isSome then .committing
  else if p.shown.isNone then .unknown
  else if target p = some desired then .inSync
  else .stale

/-- The four kinds whose change is urgent (R130). -/
def urgentKind : CompKind → Bool
  | .movedNotice => true | .cancelledNotice => true | .setupPending => true | .dayList => true
  | .blank => false | .nameOnly => false | .session => false | .directory => false

/-- Is a change, or a join, urgent (R130, R131)? -/
def isUrgent (p : Panel) (desired : Composition) (primaryChange : Bool) : Bool :=
  (target p).isNone || urgentKind desired.kind || primaryChange

/-! ### Queue membership (R129) -/

/-- A record joins the tail of a class; its trunk is told (R129, R132). -/
def joinQueue (k : Nat) (p : Panel) (urgent : Bool) (s : State) : State :=
  let joined := setPanel k { p with queue := some ⟨urgent, s.now, s.dispatcher.nextJoin⟩ } s
  wakeTrunk (keyTrunk k)
    { joined with dispatcher := { joined.dispatcher with nextJoin := joined.dispatcher.nextJoin + 1 } }

/-- Membership judged for a cause other than a desired-change notice (R129, R131). -/
def judgeMembership (k : Nat) (s : State) : State :=
  match panelAt s k, signAt s k with
  | some p, some g =>
    if p.link = .present ∧ target p ≠ some g.desired then
      match p.queue with
      | none => joinQueue k p (isUrgent p g.desired false) s
      | some _ => s
    else if p.queue.isSome then setPanel k { p with queue := none } s else s
  | _, _ => s

/-- A desired-change notice (R130). -/
def desiredChange (k : Nat) (primaryChange : Bool) (s : State) : State :=
  match panelAt s k, signAt s k with
  | some p, some g =>
    if p.link ≠ .present then s
    else if target p = some g.desired then
      if p.queue.isSome then setPanel k { p with queue := none } s else s
    else
      match p.queue with
      | none => joinQueue k p (isUrgent p g.desired primaryChange) s
      | some q =>
        wakeTrunk (keyTrunk k)
          (setPanel k { p with queue := some { q with urgent := q.urgent || isUrgent p g.desired primaryChange } } s)
  | _, _ => s

/-- A trunk's dispatch queue, head first: URGENT before NORMAL, then queued-since, then order of joining (R129). -/
def queueOf (s : State) (t : Nat) : List (Nat × Panel) :=
  sortBy (fun e => match e.2.queue with
    | some q => [if q.urgent then 0 else 1, q.since, q.seq]
    | none => [])
    (s.dispatcher.panels.filter fun e => keyTrunk e.1 == t && e.2.queue.isSome)

/-! ### Steps (R132–R137) -/

/-- The plates a composition names, in layer order. -/
def namedPlates (c : Composition) : List Nat := (layerList c.layers).filter fun id => id != 0

/-- A plate a slot holds, LOADED or FILLING. -/
def slotPlate (x : Slot) : Option Nat :=
  match x.state with
  | .free => none
  | .filling id _ => some id
  | .loaded id _ => some id

/-- A plate is LOADED in a mirror. -/
def isLoaded (m : List Slot) (id : Nat) : Bool :=
  m.any fun x => match x.state with
    | .loaded i _ => i == id
    | .filling _ _ => false
    | .free => false

/-- A slot is FILLING with a plate. -/
def isFilling (id : Nat) (x : Slot) : Bool :=
  match x.state with
  | .filling i _ => i == id
  | .loaded _ _ => false
  | .free => false

/-- The slots of a mirror with their numbers, from 1. -/
def numberedSlots (m : List Slot) : List (Nat × Slot) := (upTo m.length).zip m

/-- The slot given to a plate (R135): a FILLING slot with it, the lowest FREE one, or the eviction choice. -/
def chooseSlot (p : Panel) (desired : Composition) (id : Nat) : Option Nat :=
  let slots := numberedSlots p.mirror
  let wanted := namedPlates desired ++ (match p.awaiting with
    | some w => namedPlates w.comp
    | none => [])
  match slots.find? fun e => isFilling id e.2 with
  | some e => some e.1
  | none =>
    match slots.find? fun e => e.2.state == .free with
    | some e => some e.1
    | none =>
      (leastBy (fun e => [e.2.stamp, e.1]) (slots.filter fun e => match slotPlate e.2 with
        | some i => !wanted.contains i
        | none => false)).map fun e => e.1

/-- The cost of showing a composition against a target (R133). -/
def showCost (tgt : Option Composition) (desired : Composition) : Int :=
  match tgt with
  | none => 3
  | some c => if c.kind = desired.kind ∧ c.layers = desired.layers then 1 else 3

/-- The credit suffices for a class (R137). -/
def creditSuffices (urgent : Bool) (credit cost : Int) : Bool :=
  if urgent then cost - 4 ≤ credit else cost ≤ credit

/-- The slot of a number, 1 to 8. -/
def slotAt (m : List Slot) (j : Nat) : Slot := m.getD (j - 1) ⟨.free, 0⟩

/-- The blocks already loaded of a plate in a slot, 0 if the slot holds no record of it. -/
def blocksLoaded (x : Slot) (id : Nat) : Nat :=
  match x.state with
  | .filling i n => if i = id then n else 0
  | .loaded i n => if i = id then n else 0
  | .free => 0

/-- The step allowed for a queued record, if any (R132, R134, R137). -/
def allowedStep (s : State) (k : Nat) (p : Panel) (g : Sign) (urgent : Bool) : Option DispatchStep :=
  match (namedPlates g.desired).find? fun id => !isLoaded p.mirror id with
  | some id =>
    match plateAt s id, chooseSlot p g.desired id with
    | some x, some j =>
      if x.state = .ready ∧ ¬ g.gone.contains id then
        some ⟨keyPosition k, .feed j id (blocksLoaded (slotAt p.mirror j) id + 1) (blocksFor x.size), false, false⟩
      else none
    | _, _ => none
  | none =>
    let cost := showCost (target p) g.desired
    if p.awaiting.isNone && creditSuffices urgent p.credit cost then
      some ⟨keyPosition k, .showing g.desired cost, false, false⟩
    else none

/-- The mirror as a feed step leaves it when handed out: the slot FILLING with the plate; a slot that held no record of the
plate starts from 0 blocks with a fresh stamp (R134). -/
def feedMirror (m : List Slot) (j id now : Nat) : List Slot :=
  let old := slotAt m j
  m.set (j - 1) (if slotPlate old = some id then ⟨.filling id (blocksLoaded old id), old.stamp⟩ else ⟨.filling id 0, now⟩)

/-- A step is handed out: the record moves to the tail of its class and a feed takes its slot (R132, R134). -/
def handOut (k : Nat) (p : Panel) (urgent : Bool) (step : DispatchStep) (s : State) : State :=
  let mirror := match step.kind with
    | .feed j id _ _ => feedMirror p.mirror j id s.now
    | .showing _ _ => p.mirror
  let moved := setPanel k { p with mirror := mirror, queue := some ⟨urgent, s.now, s.dispatcher.nextJoin⟩ } s
  { moved with dispatcher := { moved.dispatcher with nextJoin := moved.dispatcher.nextJoin + 1 } }

/-- The first record of a trunk's queue for which a step is allowed, with the step (R132). -/
def scanQueue (s : State) (t : Nat) : Option (Nat × Panel × Bool × DispatchStep) :=
  (queueOf s t).findSome? fun e =>
    match signAt s e.1, e.2.queue with
    | some g, some q => (allowedStep s e.1 e.2 g q.urgent).map fun d => (e.1, e.2, q.urgent, d)
    | _, _ => none

/-! ### Pending compositions -/

/-- A record without its pending composition, SHOW time and deadline; an OVERDUE query due becomes NONE (R141, R142, R147). -/
def withoutPending (p : Panel) : Panel :=
  { p with awaiting := none, query := if p.query = .overdue then .none else p.query }

/-- The stamps of the slots that hold a composition's plates set to now (R141). -/
def stampSlots (m : List Slot) (c : Composition) (now : Nat) : List Slot :=
  m.map fun x => match slotPlate x with
    | some id => if (namedPlates c).contains id then { x with stamp := now } else x
    | none => x

/-- A pending composition is known to be shown (R141 row 1, R142). -/
def confirmShown (k : Nat) (p : Panel) (w : PendingShow) (s : State) : State :=
  let confirmed := setPanel k
    { withoutPending p with shown := some w.comp, mirror := stampSlots p.mirror w.comp s.now } s
  judgeMembership k (wakeTrunk (keyTrunk k)
    (clearConditions (panelObject k) [.overdue, .mismatch, .panelFault] confirmed))

/-- The shown composition becomes absent and the pending one is dropped with its SHOW time and deadline; the query due is the
given record's (R141 row 2, R142, R149). -/
def forgetShown (k : Nat) (p : Panel) (s : State) : State :=
  judgeMembership k (wakeTrunk (keyTrunk k) (setPanel k { p with awaiting := none, shown := none } s))

/-- A DONE report (R141). -/
def takeDone (k : Nat) (d : Digest) (s : State) : State :=
  match panelAt s k with
  | none => s
  | some p =>
    match p.awaiting with
    | some w =>
      if compositionDigest w.comp = d then confirmShown k p w s
      else forgetShown k (withoutPending p) (setLive (panelObject k) .mismatch true s)
    | none => judgeMembership k (setPanel k { p with shown := none } s)

/-! ### Blocking (R146, R147) -/

/-- A position's recovery timer discarded (R166). -/
def dropRecovery (k : Nat) (s : State) : State :=
  modifyTrunk (keyTrunk k) (fun x => { x with recovery := erase x.recovery (keyPosition k) }) s

/-- A position's recovery timer started at 30 s (R166). -/
def startRecovery (k : Nat) (s : State) : State :=
  modifyTrunk (keyTrunk k) (fun x =>
    { x with recovery := assign x.recovery (keyPosition k) (.running (s.now + Config.recoveryTime)) }) s

/-- A record becomes BLOCKED (R147). -/
def becomeBlocked (k : Nat) (s : State) : State :=
  match panelAt s k with
  | none => s
  | some p =>
    if p.link = .blocked then s
    else
      startRecovery k (setLive (panelObject k) .overdue false
        (setPanel k { withoutPending p with link := .blocked, shown := none, queue := none } s))

/-- A failed exchange of a record (R146, R147). -/
def failExchange (k : Nat) (s : State) : State :=
  match panelAt s k with
  | none => s
  | some p =>
    if p.link = .blocked then s
    else
      let counted := setPanel k { p with failures := p.failures + 1 } s
      if 3 ≤ p.failures + 1 then becomeBlocked k (setLive (panelObject k) .silent true counted) else counted

/-- A successful exchange of a record (R146). -/
def succeedExchange (k : Nat) (s : State) : State :=
  match panelAt s k with
  | none => s
  | some p => if p.link = .blocked then s else setPanel k { p with failures := 0 } s

/-! ### QUERY outcomes (R142, R144, R145, R148) -/

/-- The mirror rebuilt from a status record: a slot whose plate is READY with an equal digest is LOADED, the lower one of two
for the same plate; every other slot is FREE (R145 step 1). -/
def adoptMirror (s : State) : (seen : List Nat) → List Slot → List (Nat × Digest) → List Slot
  | _, [], _ => []
  | _, olds, [] => olds
  | seen, old :: olds, (id, d) :: rest =>
    match plateAt s id with
    | some x =>
      if x.state = .ready ∧ x.digest = d ∧ id ≠ 0 ∧ ¬ seen.contains id then
        ⟨.loaded id (blocksFor x.size), s.now⟩ :: adoptMirror s (id :: seen) olds rest
      else ⟨.free, old.stamp⟩ :: adoptMirror s seen olds rest
    | none => ⟨.free, old.stamp⟩ :: adoptMirror s seen olds rest

/-- A panel is adopted from its status record (R145). -/
def adopt (k : Nat) (r : PanelStatus) (s : State) : State :=
  match panelAt s k, signAt s k with
  | some p, some g =>
    let same := r.shown == some (compositionDigest g.desired)
    let adopted := setPanel k
      { p with
        mirror := adoptMirror s [] p.mirror r.slots
        awaiting := none
        query := .none
        shown := if same then some g.desired else none
        failures := 0
        link := .present } s
    let cleared := clearConditions (panelObject k)
      (if same then [.silent, .supply, .overdue, .mismatch, .panelFault] else [.silent, .supply, .overdue]) adopted
    judgeMembership k (wakeTrunk (keyTrunk k) (if p.link = .blocked then dropRecovery k cleared else cleared))
  | _, _ => s

/-- An overdue QUERY's shown digest resolves the pending composition (R142). -/
def resolveOverdue (k : Nat) (r : PanelStatus) (s : State) : State :=
  match panelAt s k with
  | none => s
  | some p =>
    match p.awaiting with
    | some w => if r.shown = some (compositionDigest w.comp) then confirmShown k p w s else forgetShown k (withoutPending p) s
    | none => judgeMembership k (setPanel k { p with query := .none } s)

/-- A successful QUERY of a position (R144, R145, R148, R142). -/
def querySucceeded (k : Nat) (r : PanelStatus) (s : State) : State :=
  match panelAt s k with
  | none => s
  | some p =>
    if p.link = .blocked ∨ p.query = .adopt then adopt k r s
    else if p.query = .overdue then succeedExchange k (resolveOverdue k r s)
    else succeedExchange k s

/-! ### LOAD and SHOW outcomes (R136, R137) -/

/-- A slot with the acknowledged blocks of a run added: LOADED, stamped now, at the plate's block count (R136). -/
def slotCounted (x : Slot) (id blocks acked now : Nat) : Slot :=
  if isFilling id x then
    if blocksLoaded x id + acked = blocks then ⟨.loaded id blocks, now⟩
    else ⟨.filling id (blocksLoaded x id + acked), x.stamp⟩
  else x

/-- A slot after a run: its blocks counted, then FREE under a release mark (R136). A FREE slot keeps the stamp it had at that
moment: the model's choice (notes/assumptions/22.md). -/
def slotAfterRun (x : Slot) (id blocks acked now : Nat) (release : Bool) : Slot :=
  let counted := slotCounted x id blocks acked now
  if release then ⟨.free, counted.stamp⟩ else counted

/-- The outcome of a LOAD run (R136, R146). An orphaned step's outcome is discarded (R152). -/
def loadOutcome (k : Nat) (step : DispatchStep) (acked : Nat) (good : Bool) (s : State) : State :=
  match step.kind with
  | .showing _ _ => s
  | .feed j id _ blocks =>
    if step.orphaned then s
    else
      let slotted := modifyPanel k (fun p =>
        { p with mirror := p.mirror.set (j - 1)
                   (slotAfterRun (slotAt p.mirror j) id blocks acked s.now step.release) }) s
      if good then succeedExchange k slotted else failExchange k slotted

/-- SHOW was accepted (R137). -/
def showAccepted (k : Nat) (step : DispatchStep) (s : State) : State :=
  match step.kind with
  | .feed _ _ _ _ => s
  | .showing c cost =>
    if step.orphaned then s
    else
      judgeMembership k (succeedExchange k (modifyPanel k (fun p =>
        { p with credit := p.credit - cost, awaiting := some ⟨c, s.now, some (s.now + Config.overdueTime)⟩ }) s))

/-- SHOW was refused BUSY or failed (R137, R146). -/
def showFailed (k : Nat) (step : DispatchStep) (s : State) : State :=
  if step.orphaned then s else failExchange k s

/-! ### Reports (R149, R150) -/

/-- A FAULT report raises PANEL_FAULT (R149). -/
def takeFault (k : Nat) (s : State) : State :=
  if (panelAt s k).isSome then setLive (panelObject k) .panelFault true s else s

/-- SLOT_CORRUPT: the slot becomes FREE, and a pending composition that names its plate is dropped. An OVERDUE query due stays
due, and its result is then not compared (R142, R149). -/
def takeSlotCorrupt (k slot : Nat) (s : State) : State :=
  match panelAt s k with
  | none => s
  | some p =>
    let raised := setLive (panelObject k) .panelFault true s
    if within Config.slots slot then
      let old := slotAt p.mirror slot
      let freed := { p with mirror := p.mirror.set (slot - 1) ⟨.free, old.stamp⟩ }
      match slotPlate old, p.awaiting with
      | some id, some w =>
        if (namedPlates w.comp).contains id then forgetShown k freed raised
        else wakeTrunk (keyTrunk k) (setPanel k freed raised)
      | _, _ => wakeTrunk (keyTrunk k) (setPanel k freed raised)
    else raised

/-- A SUPPLY report (R147, R150). -/
def takeSupply (k : Nat) (s : State) : State :=
  if (panelAt s k).isSome then becomeBlocked k (setLive (panelObject k) .supply true s) else s

/-! ### Counts, releases, teardown -/

/-- A record above the count result goes to ABSENT (R143). -/
def countOut (k : Nat) (s : State) : State :=
  match panelAt s k with
  | none => s
  | some p =>
    let out := clearConditions (panelObject k) [.silent, .overdue, .supply]
      (setPanel k { p with link := .absent, queue := none, awaiting := none, query := .none, failures := 0 } s)
    if p.link = .blocked then dropRecovery k out else out

/-- The count result of a trunk reaches its records (R143). -/
def countResult (t n : Nat) (s : State) : State :=
  (panelsOn s t).foldl (fun acc k =>
    if n < keyPosition k then countOut k acc else modifyPanel k (fun p => { p with query := .adopt }) acc) s

/-- The slot a step in flight of the record's trunk loads with a plate (R151). -/
def slotInFlight (s : State) (k id : Nat) : Option Nat :=
  match (trunkOf s (keyTrunk k)).step with
  | some d =>
    if d.position = keyPosition k ∧ ¬ d.orphaned then
      match d.kind with
      | .feed j i _ _ => if i = id then some j else none
      | .showing _ _ => none
    else none
  | none => none

/-- A mirror with every slot that holds a plate freed, but for one excepted slot (R151). -/
def releaseMirror (m : List Slot) (id : Nat) (except : Option Nat) : List Slot :=
  (numberedSlots m).map fun e =>
    if slotPlate e.2 = some id ∧ except ≠ some e.1 then ⟨.free, e.2.stamp⟩ else e.2

/-- A step in flight marked for release if it loads the plate (R151). -/
def markRelease (id : Nat) (x : Trunk) : Trunk :=
  match x.step with
  | some d =>
    match d.kind with
    | .feed _ i _ _ => if i = id then { x with step := some { d with release := true } } else x
    | .showing _ _ => x
  | none => x

/-- A desired composition that names the plate is barred from feeding it until its next resolution (R134). -/
def noteGone (id : Nat) (g : Sign) : Sign :=
  if (namedPlates g.desired).contains id then { g with gone := putNumber g.gone id true } else g

/-- A slot-mirror release (R87, R151); the trunks with a freed slot are told (R132). -/
def releasePlate (id : Nat) (s : State) : State :=
  let panels := mapTable (fun k (p : Panel) => { p with mirror := releaseMirror p.mirror id (slotInFlight s k id) })
    s.dispatcher.panels
  let released : State :=
    { s with
      dispatcher := { s.dispatcher with panels := panels }
      trunks := mapTable (fun _ x => markRelease id x) s.trunks
      resolver := { s.resolver with signs := mapTable (fun _ g => noteGone id g) s.resolver.signs } }
  (upTo Config.trunks).foldl (fun acc t =>
    if (s.dispatcher.panels.filter fun e => keyTrunk e.1 == t) = (panels.filter fun e => keyTrunk e.1 == t) then acc
    else wakeTrunk t acc) released

/-- The five panel conditions. -/
def panelConditions : List Condition := [.silent, .overdue, .mismatch, .panelFault, .supply]

/-- A removed sign's panel record is forgotten and a step in flight for it orphaned (R152, R166). -/
def forgetPanel (k : Nat) (s : State) : State :=
  let cleared := clearConditions (panelObject k) panelConditions s
  let dropped := modifyTrunk (keyTrunk k) (fun x =>
    { x with
      recovery := erase x.recovery (keyPosition k)
      step := x.step.map fun d => if d.position = keyPosition k then { d with orphaned := true } else d }) cleared
  { dropped with dispatcher := { dropped.dispatcher with panels := erase dropped.dispatcher.panels k } }

/-- The initial values of a panel record (R126). -/
def Panel.fresh (now : Nat) : Panel :=
  ⟨.absent, none, none, .none, 8, 0, List.replicate Config.slots ⟨.free, now⟩, none⟩

/-- A new sign's panel record; within the last count of a RUNNING trunk it starts with ADOPT due (R126, R143). -/
def createPanel (k : Nat) (s : State) : State :=
  let x := trunkOf s (keyTrunk k)
  if x.state = .running ∧ keyPosition k ≤ x.chainCount then
    wakeTrunk (keyTrunk k) (setPanel k { Panel.fresh s.now with query := .adopt } s)
  else setPanel k (Panel.fresh s.now) s

/-- A record as a stop leaves it; the slot of a run that was in flight becomes FREE (R153). -/
def stoppedPanel (cut : Option Nat) (p : Panel) : Panel :=
  let mirror := match cut with
    | some j => p.mirror.set (j - 1) ⟨.free, (slotAt p.mirror j).stamp⟩
    | none => p.mirror
  { p with link := .absent, queue := none, awaiting := none, query := .none, failures := 0, mirror := mirror }

/-- The slot of a record that the trunk's run in flight was loading (R153). -/
def cutSlot (x : Trunk) (k : Nat) : Option Nat :=
  match x.step with
  | some d =>
    if d.position = keyPosition k ∧ ¬ d.orphaned then
      match d.kind with
      | .feed j _ _ _ => some j
      | .showing _ _ => none
    else none
  | none => none

/-- The records of a trunk that goes OFF (R153). -/
def stopPanels (t : Nat) (s : State) : State :=
  let x := trunkOf s t
  (panelsOn s t).foldl (fun acc k =>
    clearConditions (panelObject k) [.silent, .overdue, .supply] (modifyPanel k (stoppedPanel (cutSlot x k)) acc)) s

/-- A KEY report is accepted (R139). -/
def keyAccepted (s : State) (k : Nat) : Bool :=
  match panelAt s k, signAt s k with
  | some p, some g =>
    (p.link == .present) && (-1 ≤ p.credit) && (match g.role with
      | .door _ key => key
      | .corridor _ => false)
  | _, _ => false

end Sys2Proof.Machine
end

