-- ==== Sys2Proof/Machine/Resolve.lean ====
section
/-! DEFINITION. The Resolver's computation: phases, candidates, primary and next, compositions, resolution and its triggers,
the mismatch values, day-list requests (R100–R124). -/

namespace Sys2Proof.Machine

/-! ### Phase arithmetic (R104, R105) -/

/-- The timing record of a room definition; the defaults of R40 where none is listed. -/
def timingOf (s : State) (room : Nat) : Timing := lookupD s.table.timing room ⟨60, 15, 5⟩

/-- The phase at minute n of an interval from `b` to `e` under a timing record (R104), written without subtraction. -/
def phaseAt (t : Timing) (n b e : Nat) : Phase :=
  if n + t.a < b ∨ e + t.l ≤ n then .none
  else if n + t.d < b then .upcoming
  else if n < b then .doors
  else if n < e then .underway
  else .closing

/-- An entry's phase now. -/
def phaseOf (s : State) (e : Entry) : Phase := phaseAt (timingOf s e.room) (venueMinute s) e.start e.stop

/-- CLOCK of a venue minute, its day offset held to −1 to 2 (R105). -/
def clockField (n m : Nat) : TimeField :=
  let days : Int := (m / Config.dayMinutes : Nat) - (n / Config.dayMinutes : Nat)
  ⟨.clock, m % Config.dayMinutes, max (-1) (min 2 days)⟩

/-- The time field of a phase (R105). -/
def timeField (p : Phase) (n b e : Nat) : TimeField :=
  match p with
  | .upcoming => clockField n b
  | .doors => ⟨.countdown, b - n, 0⟩
  | .underway => clockField n e
  | .closing => clockField n e
  | .none => .empty

/-- The progress value, present in UNDERWAY (R105). -/
def progressOf (p : Phase) (n b e : Nat) : Option Nat :=
  match p with
  | .underway => some (16 * (n - b) / (e - b))
  | .none => none
  | .upcoming => none
  | .doors => none
  | .closing => none

/-! ### Reading the other blocks -/

/-- A SCHEDULED session (R24). -/
def isScheduled (e : Entry) : Bool :=
  match e.what with
  | .session _ cancelled => !cancelled
  | .tombstone _ _ => false

/-- A session number, none for a tombstone (R24). -/
def sessionNumber (e : Entry) : Option Nat :=
  match e.what with
  | .session n _ => some n
  | .tombstone _ _ => none

/-- A room definition's name plate, 0 if it is undefined. -/
def roomPlate (s : State) (room : Nat) : Nat :=
  match lookup s.layout.rooms room with
  | some r => r.plate
  | none => 0

/-- A room definition is formed (R59). -/
def isFormed (s : State) (room : Nat) : Bool :=
  match lookup s.layout.rooms room with
  | some r =>
    match lookup s.layout.halls r.hall with
    | some h => h.formation.any fun c => c.room == some room
    | none => false
  | none => false

/-- An entry's title choice (R111). -/
def titleChoice (s : State) (e : Entry) : Nat :=
  if e.priv then s.plates.settings.priv
  else if e.title ≠ 0 then e.title
  else s.plates.settings.untitled

/-- The name of a segment's room: the matching room definition's plate, or the hall's (R113). -/
def segmentName (s : State) (g : Nat) : Nat :=
  match hallOfSegment s g with
  | none => 0
  | some h =>
    match lookup s.layout.halls h with
    | none => 0
    | some x =>
      match (x.formation.find? fun c => c.segments.contains g).bind fun c => c.room with
      | some room => roomPlate s room
      | none => x.plate

/-- A room definition's segment set, empty if it is undefined. -/
def roomSegments (s : State) (room : Nat) : List Nat :=
  match lookup s.layout.rooms room with
  | some r => r.segments
  | none => []

/-! ### Candidates, primary, next (R106–R109) -/

/-- The entries of a door sign with a segment, in table order (R106). -/
def entriesOf (s : State) (g : Nat) : List Entry :=
  s.table.entries.filter fun e => (roomSegments s e.room).contains g

/-- The tie order of R108: room definition, sessions by number before tombstones; table order is left to the list's own. -/
def tieKey (e : Entry) : List Nat :=
  match sessionNumber e with
  | some n => [e.room, 0, n]
  | none => [e.room, 1, 0]

/-- The rank of a candidate in a phase, and its measure within the rank (R107). -/
def rankKey (p : Phase) (e : Entry) : List Nat :=
  if isScheduled e then
    match p with
    | .underway => [1, e.start]
    | .doors => [2, e.start]
    | .closing => [4, Config.lastMinute - e.stop]
    | .upcoming => [5, e.start]
    | .none => [6, e.start]
  else [3, e.start]

/-- The primary among a list of entries in table order (R107, R108). -/
def primaryAmong (s : State) (es : List Entry) : Option Entry :=
  leastBy (fun e => rankKey (phaseOf s e) e ++ tieKey e) (es.filter fun e => phaseOf s e != .none)

/-- The identity of an entry (R101). -/
def identity (e : Entry) : PrimaryRef :=
  match e.what with
  | .session n _ => .session n
  | .tombstone c _ => .tombstone e.room c

/-- The primary of a door sign with a segment; none while the clock is UNSET (R106, R124). -/
def primaryOf (s : State) (g : Nat) : Option Entry :=
  if s.clock.isSet then primaryAmong s (entriesOf s g) else none

/-- The start of tomorrow. -/
def startOfTomorrow (s : State) : Nat := (s.clock.day + 1) * Config.dayMinutes

/-- The next entry behind a primary (R109). -/
def nextAfter (s : State) (g : Nat) (p : Entry) : Option Entry :=
  leastBy (fun e => e.start :: tieKey e)
    ((entriesOf s g).filter fun e => isScheduled e && p.start < e.start && e.start < startOfTomorrow s)

/-- The list of a day-list view (R118). -/
def dayList (s : State) (g : Nat) : List Entry :=
  (sortBy (fun e => e.start :: tieKey e)
    ((entriesOf s g).filter fun e =>
      isScheduled e && s.clock.day * Config.dayMinutes ≤ e.start && e.start < startOfTomorrow s &&
        venueMinute s < e.stop)).take 5

/-! ### Door compositions (R112–R118) -/

/-- NAME_ONLY (R113, R124). -/
def nameOnly (s : State) (g : Nat) : Composition :=
  let idle := if s.clock.isSet then s.plates.settings.idle else 0
  { Composition.empty .nameOnly with layers := ⟨segmentName s g, idle, 0, 0, 0, 0⟩ }

/-- SESSION (R114). -/
def sessionComposition (s : State) (g : Nat) (p : Entry) : Composition :=
  let phase := phaseOf s p
  let next := nextAfter s g p
  let doors : Bool := match hallOfSegment s g with
    | some h => phase == .underway && s.resolver.doors.contains h
    | none => false
  let nextTitle := match next with
    | some x => titleChoice s x
    | none => 0
  { Composition.empty .session with
    layers :=
      ⟨roomPlate s p.room, titleChoice s p, p.banner, nextTitle,
        if doors then s.plates.settings.doorsClosed else 0, 0⟩
    phase := phase
    time := timeField phase (venueMinute s) p.start p.stop
    progress := progressOf phase (venueMinute s) p.start p.stop
    nextStart := next.map fun x => x.start % Config.dayMinutes }

/-- SETUP_PENDING (R115). -/
def setupComposition (s : State) (p : Entry) : Composition :=
  let phase := phaseOf s p
  { Composition.empty .setupPending with
    layers := ⟨roomPlate s p.room, titleChoice s p, s.plates.settings.setup, 0, 0, 0⟩
    phase := phase
    time := timeField phase (venueMinute s) p.start p.stop
    progress := progressOf phase (venueMinute s) p.start p.stop }

/-- The SESSION entry with a number (R26). -/
def sessionEntry (es : List Entry) (number : Nat) : Option Entry := es.find? fun e => sessionNumber e == some number

/-- MOVED_NOTICE (R116). -/
def movedComposition (s : State) (t : Entry) (goal : Nat) : Composition :=
  let moved := sessionEntry s.table.entries goal
  let room := match moved with
    | some q => roomPlate s q.room
    | none => 0
  let time := match moved with
    | some q => clockField (venueMinute s) q.start
    | none => .empty
  { Composition.empty .movedNotice with
    layers := ⟨roomPlate s t.room, s.plates.settings.moved, room, titleChoice s t, 0, 0⟩
    phase := phaseOf s t
    time := time }

/-- CANCELLED_NOTICE (R117). -/
def cancelledComposition (s : State) (c : Entry) : Composition :=
  { Composition.empty .cancelledNotice with
    layers := ⟨roomPlate s c.room, s.plates.settings.cancelled, titleChoice s c, 0, 0, 0⟩
    phase := phaseOf s c
    time := clockField (venueMinute s) c.start }

/-- DAYLIST (R118). -/
def dayListComposition (s : State) (g : Nat) : Composition :=
  let list := dayList s g
  let title := fun i => match list[i]? with
    | some e => titleChoice s e
    | none => 0
  { Composition.empty .dayList with
    layers := ⟨segmentName s g, title 0, title 1, title 2, title 3, title 4⟩
    starts := list.map fun e => e.start % Config.dayMinutes }

/-- The composition a primary gives (R112, items 4 to 7). -/
def primaryComposition (s : State) (g : Nat) (p : Entry) : Composition :=
  match p.what with
  | .session _ true => cancelledComposition s p
  | .tombstone _ none => cancelledComposition s p
  | .tombstone _ (some goal) => movedComposition s p goal
  | .session _ false =>
    if isFormed s p.room ∨ phaseOf s p = .upcoming ∨ phaseOf s p = .closing then sessionComposition s g p
    else setupComposition s p

/-- A door sign's composition (R112). -/
def doorComposition (s : State) (g : Nat) (dayView : Bool) : Composition :=
  if !s.clock.isSet then nameOnly s g
  else if dayView then dayListComposition s g
  else
    match primaryOf s g with
    | none => nameOnly s g
    | some p => primaryComposition s g p

/-! ### Corridor directories (R119, R120) -/

/-- The room primary of a room definition (R119). -/
def roomPrimary (s : State) (room : Nat) : Option Entry :=
  primaryAmong s (s.table.entries.filter fun e => e.room == room && isScheduled e)

/-- The group of a phase in the order of lines (R120); none for a phase that does not qualify. -/
def lineGroup (p : Phase) : Option Nat :=
  match p with
  | .doors => some 1
  | .underway => some 2
  | .upcoming => some 3
  | .none => none
  | .closing => none

/-- The arrow of the route whose segment is the room's lowest segment in the route list (R120). -/
def routeArrow (routes : List (Nat × Nat)) (segments : List Nat) : Nat :=
  match segments.findSome? fun g => routes.find? fun r => r.1 == g with
  | some r => r.2
  | none => 0

/-- A qualifying room definition with its sort key and its line (R119, R120). -/
def corridorLine (s : State) (routes : List (Nat × Nat)) (room : Nat) : Option (List Nat × Nat × DirLine) :=
  let segments := roomSegments s room
  if isFormed s room ∧ segments.any fun g => routes.any fun r => r.1 == g then
    (roomPrimary s room).bind fun p =>
      let phase := phaseOf s p
      (lineGroup phase).map fun group =>
        ([group, p.start, room], roomPlate s room,
          ⟨routeArrow routes segments, phase, timeField phase (venueMinute s) p.start p.stop⟩)
  else none

/-- The lines of a corridor sign, in order, before the first four are taken (R120). -/
def corridorLines (s : State) (routes : List (Nat × Nat)) : List (List Nat × Nat × DirLine) :=
  sortBy (fun x => x.1) ((numbers s.layout.rooms).filterMap (corridorLine s routes))

/-- A corridor sign's composition (R120, R124). -/
def corridorComposition (s : State) (routes : List (Nat × Nat)) : Composition :=
  let lines := if s.clock.isSet then corridorLines s routes else []
  if lines.isEmpty then .empty .blank
  else
    let plate := fun i => match lines[i]? with
      | some l => l.2.1
      | none => 0
    { Composition.empty .directory with
      layers := ⟨plate 0, plate 1, plate 2, plate 3, 0, 0⟩
      lines := (lines.take 4).map fun l => l.2.2
      more := decide (4 < lines.length) }

/-! ### Resolution (R100, R101) -/

/-- The composition a sign ought to show now (R100). -/
def compositionOf (s : State) (g : Sign) : Composition :=
  match g.role with
  | .door seg _ => doorComposition s seg g.view.isSome
  | .corridor routes => corridorComposition s routes

/-- The primary of a sign now; a corridor sign has none. -/
def signPrimary (s : State) (g : Sign) : Option Entry :=
  match g.role with
  | .door seg _ => primaryOf s seg
  | .corridor _ => none

/-- Primary change against the reference held before (R101). -/
def primaryChanged (s : State) (g : Sign) : Bool :=
  match signPrimary s g with
  | none => false
  | some p => g.primary != some (identity p) && (phaseOf s p == .doors || phaseOf s p == .underway)

/-- A sign's record as a resolution leaves it (R100). -/
def resolvedSign (s : State) (g : Sign) : Sign :=
  { g with primary := (signPrimary s g).map identity, desired := compositionOf s g, gone := [] }

/-- A sign is resolved; a changed composition is handed to the Dispatcher (R100, R101). -/
def resolveSign (k : Nat) (s : State) : State :=
  match signAt s k with
  | none => s
  | some g =>
    let resolved := setSign k (resolvedSign s g) s
    if compositionOf s g = g.desired then resolved else desiredChange k (primaryChanged s g) resolved

/-- Every sign that a trigger affects is resolved once, in order of trunk and position (R102). -/
def resolveWhere (affected : Sign → Bool) (s : State) : State :=
  (s.resolver.signs.filter fun e => affected e.2).foldl (fun acc e => resolveSign e.1 acc) s

/-- A sign names a segment for which the test holds: its door segment or one of its route segments (R102). -/
def signNames (test : Nat → Bool) (g : Sign) : Bool :=
  match g.role with
  | .door seg _ => test seg
  | .corridor routes => routes.any fun r => test r.1

/-- A door sign of a hall (R96). -/
def isDoorOf (s : State) (h : Nat) (g : Sign) : Bool :=
  match g.role with
  | .door seg _ => hallOfSegment s seg == some h
  | .corridor _ => false

/-! ### Mismatch values (R123) -/

/-- A hall's mismatch value as the state stands. -/
def mismatchNow (s : State) (h : Nat) : Bool :=
  s.clock.isSet && isListed s.layout.halls h && s.table.entries.any fun e =>
    isScheduled e && (match lookup s.layout.rooms e.room with
      | some r => r.hall == h
      | none => false) && (phaseOf s e == .doors || phaseOf s e == .underway) && !isFormed s e.room

/-- A hall's mismatch value is evaluated; a change is handed to the Health Monitor. -/
def evalMismatch (h : Nat) (s : State) : State :=
  let v := mismatchNow s h
  if s.resolver.mismatch.contains h = v then s
  else handMismatch h v { s with resolver := { s.resolver with mismatch := putNumber s.resolver.mismatch h v } }

/-- Every defined hall is evaluated. -/
def evalAllMismatch (s : State) : State := (numbers s.layout.halls).foldl (fun acc h => evalMismatch h acc) s

/-! ### Triggers (R102) -/

/-- The Resolver takes a minute event or a RESTART SIGNS: every sign is resolved, every defined hall evaluated. -/
def resolveAll (s : State) : State := evalAllMismatch (resolveWhere (fun _ => true) s)

/-- The Resolver takes a settings notice: every sign is resolved (R92, R102). -/
def settingsNotice (s : State) : State := resolveWhere (fun _ => true) s

/-- The halls of a set of room definitions, each once. -/
def hallsOfRooms (s : State) (rooms : List Nat) : List Nat :=
  (rooms.filterMap fun r => (lookup s.layout.rooms r).map fun x => x.hall).foldl insertNumber []

/-- The Resolver takes a table-change notice with its touched set (R102, R123). -/
def tableChange (rooms : List Nat) (s : State) : State :=
  (hallsOfRooms s rooms).foldl (fun acc h => evalMismatch h acc)
    (resolveWhere (signNames fun g => rooms.any fun r => (roomSegments s r).contains g) s)

/-- The Resolver takes the formation notices of an event's halls (R102, R123). -/
def formationNotice (halls : List Nat) (s : State) : State :=
  halls.foldl (fun acc h => evalMismatch h acc)
    (resolveWhere (signNames fun g => match hallOfSegment s g with
      | some h => halls.contains h
      | none => false) s)

/-- The Resolver takes a doors-closed state (R71, R103). -/
def doorsChange (h : Nat) (active : Bool) (s : State) : State :=
  resolveWhere (isDoorOf s h)
    { s with resolver := { s.resolver with doors := putNumber s.resolver.doors h active } }

/-! ### The day-list view (R121, R122) -/

/-- A day-list request (R121). -/
def dayListRequest (k : Nat) (s : State) : State :=
  match signAt s k with
  | none => s
  | some g =>
    match g.role with
    | .corridor _ => s
    | .door _ key =>
      if key then
        let opened := setSign k { g with view := some (s.now + Config.viewTime) } s
        if g.view.isSome then opened else resolveSign k opened
      else s

/-- A view's expiry runs out (R122). -/
def endView (k : Nat) (s : State) : State :=
  match signAt s k with
  | none => s
  | some g => resolveSign k (setSign k { g with view := none } s)

end Sys2Proof.Machine
end

