-- ==== Sys2Proof/Machine/Formation.lean ====
section
/-! DEFINITION. The Layout Unit's computation: connectedness, formations, the reconfiguring indication, raw states and holds
(R51, R55–R61). -/

namespace Sys2Proof.Machine

/-! ### Reaching across walls -/

/-- Some wall that passes the test joins the two segments, in either order (R47). -/
def joined (s : State) (passes : Nat → Wall → Bool) (a b : Nat) : Bool :=
  s.layout.walls.any fun e =>
    passes e.1 e.2 && ((e.2.segA == a && e.2.segB == b) || (e.2.segA == b && e.2.segB == a))

/-- The segments of a list reached from a set in at most the given number of steps, in the list's order. -/
def reach (join : Nat → Nat → Bool) (segments : List Nat) : (steps : Nat) → List Nat → List Nat
  | 0, found => found
  | steps + 1, found =>
    reach join segments steps (segments.filter fun g => found.contains g || found.any fun f => join f g)

/-- The segments of a list reached from one of them. -/
def reachFrom (join : Nat → Nat → Bool) (segments : List Nat) (g : Nat) : List Nat :=
  reach join segments segments.length (segments.filter fun x => x == g)

/-- A segment set is connected across the walls that pass the test (R51). -/
def connected (s : State) (passes : Nat → Wall → Bool) (segments : List Nat) : Bool :=
  match segments with
  | [] => true
  | g :: rest => reachFrom (joined s passes) (g :: rest) g == g :: rest

/-! ### Formation (R59, R60) -/

/-- A wall settled OPEN. -/
def isOpen (_ : Nat) (w : Wall) : Bool := w.settled == .opened

/-- The room definition whose segment set equals a component (R59). -/
def matchingRoom (s : State) (component : List Nat) : Option Nat :=
  (s.layout.rooms.find? fun e => e.2.segments == component).map fun e => e.1

/-- The formation of a segment set: its components in order of their lowest segment, with their matches (R59). -/
def formationOf (s : State) (segments : List Nat) : List Component :=
  segments.filterMap fun g =>
    let component := reachFrom (joined s isOpen) segments g
    if component.head? = some g then some ⟨component, matchingRoom s component⟩ else none

/-- A hall's record set. -/
def setHall (h : Nat) (x : Hall) (s : State) : State :=
  { s with layout := { s.layout with halls := assign s.layout.halls h x } }

/-- A hall's formation recomputed (R60). -/
def recomputeFormation (h : Nat) (s : State) : State :=
  match lookup s.layout.halls h with
  | none => s
  | some x => setHall h { x with formation := formationOf s x.segments } s

/-- A hall's recomputation finds a difference (R60). -/
def formationDiffers (s : State) (h : Nat) : Bool :=
  match lookup s.layout.halls h with
  | none => false
  | some x => formationOf s x.segments != x.formation

/-- The formations of an event's halls are recomputed; notices are handed for those that differ, and for all of them where
the event may have changed names (R60). The notices of two halls are taken together, each affected sign resolved once in order
of trunk and position: the model's choice (notes/assumptions/14.md). -/
def formationEvent (halls : List Nat) (namesToo : Bool) (s : State) : State :=
  formationNotice (halls.filter fun h => namesToo || formationDiffers s h)
    (halls.foldl (fun acc h => recomputeFormation h acc) s)

/-! ### Reconfiguring (R61) -/

/-- A SENSED wall off its stops. -/
def offItsStops (w : Wall) : Bool :=
  match w.source with
  | .sensed _ _ .moving _ => true
  | .sensed _ _ .conflict _ => true
  | .sensed _ _ .opened _ => false
  | .sensed _ _ .closed _ => false
  | .manual => false

/-- A hall's reconfiguring indication as its walls stand. -/
def reconfiguringNow (s : State) (h : Nat) : Bool := s.layout.walls.any fun e => e.2.hall == h && offItsStops e.2

/-- A hall's reconfiguring indication recomputed; a change is handed to the Sense Unit. -/
def recomputeReconfiguring (h : Nat) (s : State) : State :=
  match lookup s.layout.halls h with
  | none => s
  | some x =>
    let v := reconfiguringNow s h
    if x.reconfiguring = v then s else handReconfiguring h v (setHall h { x with reconfiguring := v } s)

/-! ### Raw state and hold (R55, R56) -/

/-- A wall's record set. -/
def setWall (w : Nat) (x : Wall) (s : State) : State :=
  { s with layout := { s.layout with walls := assign s.layout.walls w x } }

/-- A line's filtered level in WALL mode. -/
def wallLevel (s : State) (l : Nat) : Option Level :=
  match (lineOf s l).mode with
  | .wall f _ => f.level
  | .off => none
  | .contact _ _ _ _ _ _ => none
  | .lamp _ _ => none

/-- The raw state two filtered levels give, LOW being active; MOVING until both are delivered (R55). -/
def rawStateFrom (closedLevel openLevel : Option Level) : RawState :=
  match closedLevel, openLevel with
  | some .low, some .high => .closed
  | some .high, some .low => .opened
  | some .high, some .high => .moving
  | some .low, some .low => .conflict
  | none, _ => .moving
  | some _, none => .moving

/-- The hold after a change of raw state (R56). -/
def holdAfter (raw : RawState) (settled : WallState) (settle now : Nat) : Option Hold :=
  match raw with
  | .opened => if settled = .opened then none else some ⟨true, settle, now + settle * Config.second⟩
  | .closed => if settled = .closed then none else some ⟨false, settle, now + settle * Config.second⟩
  | .moving => none
  | .conflict => none

/-- The Layout Unit takes a filtered level of one of a wall's lines (R55, R56, R61). -/
def takeWallLevel (w : Nat) (s : State) : State :=
  match lookup s.layout.walls w with
  | none => s
  | some x =>
    match x.source with
    | .manual => s
    | .sensed c o raw _ =>
      let new := rawStateFrom (wallLevel s c) (wallLevel s o)
      if new = raw then s
      else
        recomputeReconfiguring x.hall
          (setWall w { x with source := .sensed c o new (holdAfter new x.settled s.layout.settle s.now) } s)

/-- A wall settles: WALL_CHANGE is produced and the hall's formation recomputed (R50, R57). -/
def settleWall (w : Nat) (x : Wall) (v : WallState) (s : State) : State :=
  formationEvent [x.hall] false (produce (.wallChange x.hall w v) (setWall w { x with settled := v } s))

/-- A wall is in CONFLICT: its conflict sample is 1 (R62). -/
def conflictSample (s : State) (w : Nat) : Bool :=
  match lookup s.layout.walls w with
  | none => false
  | some x =>
    match x.source with
    | .sensed _ _ raw _ => raw == .conflict
    | .manual => false

end Sys2Proof.Machine
end

