-- ==== Sys2Proof/Machine/Trunks.lean ====
section
/-! DEFINITION. The Trunk Controllers: the walk, exchanges and their ends, LOAD runs, line tests, the arbiter, stops and
re-walks (R155–R178, R205, R206). A command that ends an exchange also takes what R176 decides at that end. -/

namespace Sys2Proof.Machine

/-- The exchange in flight of a trunk becomes the given one. -/
def setExchange (t : Nat) (e : Option Exchange) (s : State) : State := modifyTrunk t (fun x => { x with exchange := e }) s

/-- The trunk's step in flight is over. -/
def dropStep (t : Nat) (s : State) : State := modifyTrunk t (fun x => { x with step := none }) s

/-- At least one attention line is active (R171). -/
def anyAttention (a : Attention) : Bool := a.l4 || a.l5 || a.l6 || a.l7

/-! ### Walks and stops -/

/-- The trunk enters COUNTING and the COUNT exchange begins (R159, R162). The probe interval runs on only with probing on
(R175). -/
def beginWalk (t : Nat) (s : State) : State :=
  modifyTrunk t (fun x =>
    { x with
      state := .counting
      rewalkPending := false
      walkPosition := 0
      exchange := some (.count [])
      step := none
      probeInterval := if x.probing then x.probeInterval else none }) s

/-- A stop takes effect (R153, R158). -/
def takeStop (t : Nat) (s : State) : State :=
  modifyTrunk t (fun x =>
    { x with
      state := .off
      stopPending := false
      exchange := none
      step := none
      probeDue := false
      probeInterval := none
      recovery := [] }) (stopPanels t s)

/-- The trunk enters FAULTED (R175, R178). -/
def enterFaulted (t : Nat) (s : State) : State :=
  modifyTrunk t (fun x =>
    { x with
      state := .faulted
      rewalkPending := false
      probeInterval := some (x.probeInterval.getD (s.now + Config.probeTime)) }) s

/-! ### LOAD runs (R167, R168) -/

/-- The run of a feed step: its group end and planned last block (R168). -/
def planRun (position slot plate first blocks : Nat) : LoadRun :=
  let groupEnd := min (16 * ceilDiv first 16) blocks
  ⟨position, slot, plate, first, min (first + 7) groupEnd, groupEnd, blocks, 0⟩

/-- The run as an acknowledgement of its 8th block leaves it: extended to the group end under MORE with every attention
line quiet (R168). -/
def extendRun (r : LoadRun) (more : Bool) (lines : Attention) : LoadRun :=
  if r.acked = 8 ∧ r.first + 7 < r.groupEnd ∧ more ∧ ¬ anyAttention lines then { r with planned := r.groupEnd } else r

/-- The block a run has sent and awaits. -/
def currentBlock (r : LoadRun) : Nat := r.first + r.acked

/-! ### The arbiter (R176) -/

/-- A QUERY is due for a position (R165, R176). -/
def queryIsDue (s : State) (t p : Nat) : Bool :=
  lookup (trunkOf s t).recovery p == some .due ||
    (match panelAt s (signKey t p) with
      | some x => x.link != .blocked && x.query != .none
      | none => false)

/-- The lowest position for which a QUERY is due (R176). -/
def lowestQuery (s : State) (t : Nat) : Option Nat := (upTo Config.positions).find? (queryIsDue s t)

/-- A dispatch step is carried as a LOAD run or a SHOW (R134, R137, R167, R170). -/
def carryStep (t k : Nat) (p : Panel) (urgent : Bool) (step : DispatchStep) (s : State) : State :=
  let handed := modifyTrunk t (fun x => { x with step := some step }) (handOut k p urgent step s)
  match step.kind with
  | .feed j id first blocks =>
    beginRun id (setExchange t (some (.load (planRun step.position j id first blocks))) handed)
  | .showing c _ => setExchange t (some (.showing step.position c)) handed

/-- The Dispatcher is asked for a step; with none the trunk is idle (R132, R176). -/
def dispatchStep (t : Nat) (s : State) : State :=
  match scanQueue s t with
  | some (k, p, urgent, step) => carryStep t k p urgent step s
  | none => s

/-- The arbiter of a trunk with no exchange in flight chooses (R176, R178). -/
def arbiter (t : Nat) (s : State) : State :=
  let x := trunkOf s t
  match x.state with
  | .off => s
  | .counting => s
  | .faulted => if x.probeDue then setExchange t (some .probe) (modifyTrunk t (fun y => { y with probeDue := false }) s) else s
  | .running =>
    if x.probeDue then setExchange t (some .probe) (modifyTrunk t (fun y => { y with probeDue := false }) s)
    else if anyAttention x.attention then setExchange t (some .call) s
    else
      match lowestQuery s t with
      | some p => setExchange t (some (.query p)) s
      | none => dispatchStep t s

/-- The next position the walk reads: above the walk position, counted, with ADOPT due (R164). -/
def nextToRead (s : State) (t : Nat) : Option Nat :=
  let x := trunkOf s t
  (upTo x.chainCount).find? fun p => x.walkPosition < p && (match panelAt s (signKey t p) with
    | some r => r.query == .adopt
    | none => false)

/-- The walk continues: its next QUERY, or RUNNING and the arbiter (R164, R176). -/
def continueWalk (t : Nat) (s : State) : State :=
  match nextToRead s t with
  | some p => modifyTrunk t (fun x => { x with walkPosition := p - 1, exchange := some (.query p) }) s
  | none => arbiter t (modifyTrunk t (fun x => { x with state := .running, walkPosition := x.chainCount }) s)

/-- What the trunk does at the end of an exchange (R176). -/
def decideNext (t : Nat) (s : State) : State :=
  let x := trunkOf s t
  if x.stopPending then takeStop t s
  else
    match x.state with
    | .counting => continueWalk t (dropStep t s)
    | .running => if x.rewalkPending then beginWalk t s else arbiter t (dropStep t s)
    | .faulted => arbiter t (dropStep t s)
    | .off => s

/-- An exchange is over and its outcome handed on: the trunk decides (R161, R176). -/
def afterExchange (t : Nat) (s : State) : State := decideNext t (setExchange t none s)

/-! ### Ends of exchanges -/

/-- The highest position of a defined sign on a trunk, 0 for none (R163). -/
def highestSign (s : State) (t : Nat) : Nat :=
  ((numbers s.resolver.signs).filter fun k => keyTrunk k == t).foldl (fun m k => max m (keyPosition k)) 0

/-- The count ends with the good replies found (R158, R163). -/
def endCount (t : Nat) (found : List ChainEntry) (s : State) : State :=
  if (trunkOf s t).stopPending then takeStop t s
  else
    let n := found.length
    let recorded := modifyTrunk t (fun x => { x with chainCount := n, chainTable := found, walkPosition := 0 }) s
    let handed := setLive (.trunk t) .chainChanged (n != highestSign recorded t) (countResult t n recorded)
    afterExchange t (produce (.countDone t found) handed)

/-- The walk has passed a position whose QUERY ended (R164). -/
def passPosition (t p : Nat) (s : State) : State :=
  modifyTrunk t (fun x => if x.state = .counting then { x with walkPosition := p } else x) s

/-- A QUERY ends with the panel's status record (R165). -/
def endQueryGood (t p : Nat) (r : PanelStatus) (s : State) : State :=
  afterExchange t (passPosition t p (querySucceeded (signKey t p) r s))

/-- A failed recovery QUERY restarts the timer (R166). -/
def restartRecovery (t p : Nat) (s : State) : State :=
  match panelAt s (signKey t p) with
  | some x =>
    if x.link = .blocked ∧ (trunkOf s t).state = .running then startRecovery (signKey t p) s else s
  | none => s

/-- A QUERY fails (R146, R165, R166). -/
def endQueryBad (t p : Nat) (s : State) : State :=
  afterExchange t (passPosition t p (failExchange (signKey t p) (restartRecovery t p s)))

/-- A LOAD run ends (R88, R136, R169). The Plate Store takes the end before the Dispatcher, so a POOL_AVAILABLE comes before a
HEALTH notice of the same end: the model's choice (notes/assumptions/14.md). -/
def endLoad (t : Nat) (r : LoadRun) (good : Bool) (s : State) : State :=
  let ended := endRun r.plate s
  match (trunkOf ended t).step with
  | some d => afterExchange t (loadOutcome (signKey t r.position) d r.acked good ended)
  | none => afterExchange t ended

/-- A block is acknowledged: the run sends the next block or ends (R158, R168, R169). -/
def blockAcked (t : Nat) (r : LoadRun) (more : Bool) (lines : Attention) (s : State) : State :=
  let counted := extendRun { r with acked := r.acked + 1 } more lines
  if counted.planned < currentBlock counted ∨ ¬ more ∨ (trunkOf s t).stopPending then endLoad t counted true s
  else setExchange t (some (.load counted)) s

/-- A SHOW ends, accepted or not (R137, R170). -/
def endShow (t p : Nat) (accepted : Bool) (s : State) : State :=
  match (trunkOf s t).step with
  | some d =>
    afterExchange t (if accepted then showAccepted (signKey t p) d s else showFailed (signKey t p) d s)
  | none => afterExchange t s

/-- A panel's report reaches the Dispatcher (R139, R141, R149, R150, R173). -/
def takeReport (k : Nat) (r : PanelReport) (s : State) : State :=
  match r with
  | .key => if keyAccepted s k then dayListRequest k s else s
  | .done d => takeDone k d s
  | .refreshFailed => takeFault k s
  | .slotCorrupt j => takeSlotCorrupt k j s
  | .tooCold => takeFault k s
  | .supply => takeSupply k s

/-- A CALL ends with a good reply: position and report, or the empty report (R173). -/
def endCallGood (t p : Nat) (r : Option PanelReport) (s : State) : State :=
  match r with
  | some report =>
    afterExchange t (if within (trunkOf s t).chainCount p then takeReport (signKey t p) report s else s)
  | none => afterExchange t s

/-! ### Line tests (R175, R178, R185, R186) -/

/-- A LINE sample enters both windows of a trunk; the count part. -/
def countSample (w : LineWindow) (r : ProbeResult) : LineWindow :=
  match r with
  | .ok => { w with taken := w.taken + 1 }
  | .short => { w with taken := w.taken + 1, short := w.short + 1 }
  | .openAt k => { w with taken := w.taken + 1, opens := w.opens + 1, latestK := k }

/-- A trunk's line windows set. -/
def setLineWindow (t : Nat) (w : LineWindow) (s : State) : State :=
  { s with health := { s.health with lineWindows := assignD s.health.lineWindows t w LineWindow.reset } }

/-- A LINE sample is taken; a full window is judged for both conditions and a new one starts (R185–R187). -/
def lineSample (t : Nat) (r : ProbeResult) (s : State) : State :=
  let w := countSample (lineWindowOf s t) r
  if w.length ≤ w.taken then
    applyJudgement (.trunk t) .lineOpen (judgeWindow w.length w.opens)
      (applyJudgement (.trunk t) .lineShort (judgeWindow w.length w.short)
        (setLineWindow t ⟨s.health.lineSetting, 0, 0, 0, w.latestK⟩ s))
  else setLineWindow t w s

/-- A change of the trunk's live LINE_SHORT reaches its controller (R178, R189). -/
def handLineShort (t : Nat) (live : Bool) (s : State) : State :=
  let x := trunkOf s t
  match x.state with
  | .running => if live then enterFaulted t s else s
  | .faulted => if live ∨ x.stopPending then s else beginWalk t s
  | .off => s
  | .counting => s

/-- A line test ends (R175, R158). A trunk that leaves FAULTED has begun its walk and decides nothing further. -/
def endProbe (t : Nat) (r : ProbeResult) (s : State) : State :=
  let before := isLive s (.trunk t) .lineShort
  let sampled := produce (.probeDone t r) (lineSample t r (setExchange t none s))
  let after := isLive sampled (.trunk t) .lineShort
  let handed := if before = after then sampled else handLineShort t after sampled
  match (trunkOf handed t).exchange with
  | none => decideNext t handed
  | some _ => handed

/-! ### Replies (R161, R162, R206) -/

/-- A COUNT reply: the entry it adds, if it is good. -/
def goodCount (found : List ChainEntry) (frame : List Byte) : Option ChainEntry :=
  match readTrunkFrame frame with
  | some (p, k, [kind, slots, key]) =>
    if k = kindCount ∧ p = found.length + 1 then some ⟨kind, slots, key⟩ else none
  | some _ => none
  | none => none

/-- A COUNT reply arrives (R162). -/
def countAnswer (t : Nat) (found : List ChainEntry) (frame : List Byte) (s : State) : State :=
  match goodCount found frame with
  | some e =>
    if (found ++ [e]).length < Config.positions ∧ ¬ (trunkOf s t).stopPending then
      setExchange t (some (.count (found ++ [e]))) s
    else endCount t (found ++ [e]) s
  | none => endCount t found s

/-- A QUERY reply's status record, if the reply is good. -/
def goodQuery (p : Nat) (frame : List Byte) : Option PanelStatus :=
  match readTrunkFrame frame with
  | some (q, k, body) => if k = kindQuery ∧ q = p then readPanelStatus body else none
  | none => none

/-- A QUERY reply arrives (R165). -/
def queryAnswer (t p : Nat) (frame : List Byte) (s : State) : State :=
  match goodQuery p frame with
  | some r => endQueryGood t p r s
  | none => endQueryBad t p s

/-- A LOAD acknowledgement's MORE flag, if the acknowledgement is good (R167, R206). -/
def goodAck (r : LoadRun) (frame : List Byte) : Option Bool :=
  match readTrunkFrame frame with
  | some (q, k, [hi, lo, flags]) =>
    if k = kindLoad ∧ q = r.position ∧ nat16 hi lo = currentBlock r ∧ ¬ flags.getLsbD 1 then some (flags.getLsbD 0)
    else none
  | some _ => none
  | none => none

/-- A LOAD acknowledgement arrives (R169). -/
def loadAnswer (t : Nat) (r : LoadRun) (frame : List Byte) (lines : Attention) (s : State) : State :=
  match goodAck r frame with
  | some more => blockAcked t r more lines s
  | none => endLoad t r false s

/-- A SHOW answer: accepted, refused BUSY, or none if it is not good (R170, R206). -/
def goodShow (p : Nat) (frame : List Byte) : Option Bool :=
  match readTrunkFrame frame with
  | some (q, k, [a]) =>
    if k = kindShow ∧ q = p then (if a = 0 then some true else if a = 1 then some false else none) else none
  | some _ => none
  | none => none

/-- A SHOW answer arrives; BUSY and a failed reply are the same to the Dispatcher (R137, R146). -/
def showReply (t p : Nat) (frame : List Byte) (s : State) : State := endShow t p (goodShow p frame == some true) s

/-- A CALL reply: position and report (none for the empty report), if it is good (R206). -/
def goodCall (frame : List Byte) : Option (Nat × Option PanelReport) :=
  match readTrunkFrame frame with
  | some (q, k, [p, level, code, hi, lo]) =>
    if k = kindCall ∧ q = p.toNat then
      if p = 0 then some (0, none)
      else (readReport level.toNat code.toNat (nat16 hi lo)).map fun r => (p.toNat, some r)
    else none
  | some _ => none
  | none => none

/-- A CALL reply arrives (R173). -/
def callAnswer (t : Nat) (frame : List Byte) (s : State) : State :=
  match goodCall frame with
  | some (p, r) => endCallGood t p r s
  | none => afterExchange t s

/-- A frame arrives on a trunk's data line and answers the exchange in flight; with none awaiting it, it is discarded
(R161; notes/assumptions/13.md). -/
def frameArrives (t : Nat) (frame : List Byte) (lines : Attention) (s : State) : State :=
  match (trunkOf s t).exchange with
  | none => s
  | some (.count found) => countAnswer t found frame s
  | some (.query p) => queryAnswer t p frame s
  | some (.load r) => loadAnswer t r frame lines s
  | some (.showing p _) => showReply t p frame s
  | some .call => callAnswer t frame s
  | some .probe => s

/-- The exchange in flight gets no reply within 4 ms (R161, R162). -/
def replyMissing (t : Nat) (s : State) : State :=
  match (trunkOf s t).exchange with
  | none => s
  | some (.count found) => endCount t found s
  | some (.query p) => endQueryBad t p s
  | some (.load r) => endLoad t r false s
  | some (.showing p _) => endShow t p false s
  | some .call => afterExchange t s
  | some .probe => s

/-- A line test in flight ends; without one there is nothing to end. -/
def probeEnds (t : Nat) (r : ProbeResult) (s : State) : State :=
  match (trunkOf s t).exchange with
  | some .probe => endProbe t r s
  | some (.count _) => s
  | some (.query _) => s
  | some (.load _) => s
  | some (.showing _ _) => s
  | some .call => s
  | none => s

/-- The attention lines of a trunk take the levels the outside shows; an idle trunk decides again on an active one (R171,
R177; notes/assumptions/10.md). -/
def seeLines (t : Nat) (lines : Attention) (s : State) : State :=
  modifyTrunk t (fun x => { x with attention := lines, wake := x.wake || anyAttention lines }) s

/-- The exchange in flight comes to its end in one of the ways of R158. -/
def exchangeEnds (t : Nat) (e : ExchangeEnd) (lines : Attention) (s : State) : State :=
  match e with
  | .frame bytes => frameArrives t bytes lines s
  | .timeout => replyMissing t s
  | .probe r => probeEnds t r s

/-! ### Idle trunks (R177) -/

/-- An idle trunk that was told to decide again does so. -/
def settleTrunk (t : Nat) (s : State) : State :=
  let x := trunkOf s t
  if x.wake then
    let heard := modifyTrunk t (fun y => { y with wake := false }) s
    if x.exchange.isNone ∧ ¬ x.stopPending then arbiter t heard else heard
  else s

/-- The trunks told to decide again inside the running command decide, in order of number (R132, R177). -/
def settleTrunks (s : State) : State := (upTo Config.trunks).foldl (fun acc t => settleTrunk t acc) s

/-! ### Starting (R156, R175) -/

/-- A trunk starts with the given probing (R156). -/
def startTrunk (t : Nat) (probing : Bool) (s : State) : State :=
  if isLive s (.trunk t) .lineShort then
    modifyTrunk t (fun x =>
      { x with
        state := .faulted
        probing := probing
        stopPending := false
        rewalkPending := false
        probeDue := false
        probeInterval := some (s.now + Config.probeTime) }) s
  else
    beginWalk t (modifyTrunk t (fun x =>
      { x with
        probing := probing
        stopPending := false
        rewalkPending := false
        probeDue := false
        probeInterval := if probing then some (s.now + Config.probeTime) else none }) s)

/-! ### Requests on the data line (R167, R205) -/

/-- The request frame of a LOAD block (R167, R205). -/
def loadRequest (s : State) (r : LoadRun) : List Byte :=
  match plateAt s r.plate with
  | none => []
  | some p =>
    trunkFrame r.position kindLoad
      (u8 r.slot ++ u8 r.plate ++ digestBytes p.digest ++ u16 r.blocks ++ u16 (currentBlock r) ++
        trunkBlock s p (currentBlock r))

/-- The request frame the exchange in flight last sent; a PROBE sends none (R205). -/
def requestFrame (s : State) (e : Exchange) : Option (List Byte) :=
  match e with
  | .count _ => some (trunkFrame 0 kindCount [])
  | .query p => some (trunkFrame p kindQuery [])
  | .load r => some (loadRequest s r)
  | .showing p c => some (trunkFrame p kindShow (encodeComposition c))
  | .call => some (trunkFrame 0 kindCall [])
  | .probe => none

end Sys2Proof.Machine
end

