-- ==== Sys2Proof/Machine/Link.lean ====
section
/-! DEFINITION. The Link Interface's own operations: the receiver, the notice queue, the transmitter's arbitration, the
service of a request, the end of an event, the full reset (R3–R13, R16). -/

namespace Sys2Proof.Machine

/-! ### Notice queue and transmitter (R12, R13) -/

/-- The link of a state changed. -/
def modifyLink (f : Link → Link) (s : State) : State := { s with link := f s.link }

/-- The part neither receives nor transmits (R16). -/
def silenced (s : State) : Bool := s.pins.resetHeld || s.pins.powerAbsent

/-- A notice joins the notice queue, or is lost and sets the overflow flag (R12). -/
def joinNotice (n : Notice) (l : Link) : Link :=
  if l.notices.length < Config.noticeQueue then { l with notices := l.notices ++ [n] } else { l with overflow := true }

/-- An idle transmitter begins the next frame (R13). -/
def nextFrame (l : Link) : Link :=
  match l.line, l.service, l.notices with
  | .idle, [], [] => l
  | .idle, _ :: _, [] => { l with line := .reply }
  | .idle, [], n :: rest => { l with line := .notice n, notices := rest }
  | .idle, _ :: _, n :: rest =>
    if l.lastSent = .reply then { l with line := .notice n, notices := rest } else { l with line := .reply }
  | .reply, _, _ => l
  | .notice _, _, _ => l

/-- The transmitter arbitrates, unless the part is silenced (R13, R16). -/
def arbitrate (s : State) : State := if silenced s then s else modifyLink nextFrame s

/-- An event's notice joins the queue when produced; an idle line takes it (R12, R13). -/
def eventNotice (n : Notice) (s : State) : State := arbitrate (modifyLink (joinNotice n) s)

/-- The end of an event: idle trunks decide, and the notices produced join the queue in order (R12, R177). -/
def flush (s : State) : State :=
  let settled := settleTrunks s
  settled.outbox.foldl (fun acc n => eventNotice n acc) { settled with outbox := [] }

/-- An event of the part. -/
def event (f : State → State) (s : State) : Host.Outcome State Fault Refusal := .next (flush (f s))

/-- An event of a trunk; a trunk outside 1–4 faults (notes/assumptions/6.md). -/
def trunkEvent (t : Nat) (f : State → State) (s : State) : Host.Outcome State Fault Refusal :=
  if within Config.trunks t then event f s else .fault (.noSuchPosition t 0)

/-- An event of a sign or panel; a trunk or position out of range faults. -/
def positionEvent (t p : Nat) (f : State → State) (s : State) : Host.Outcome State Fault Refusal :=
  if within Config.trunks t && within Config.positions p then event f s else .fault (.noSuchPosition t p)

/-! ### Service of a request (R8–R12) -/

/-- What an owner returns: status, payload, and whether a full reset follows the reply (R9, R17). -/
structure Answer where
  status : Status
  payload : List Byte
  resetAfter : Bool
deriving DecidableEq, Repr

/-- The owner's handling of a request. -/
abbrev Handler := State → State × Answer

/-- OK with a payload. -/
def ok (payload : List Byte) : Answer := ⟨.ok, payload, false⟩

/-- ADJUSTED with a payload. -/
def adjusted (payload : List Byte) : Answer := ⟨.adjusted, payload, false⟩

/-- A refusal with an empty payload (R9). -/
def refusal (status : Status) : Answer := ⟨status, [], false⟩

/-- A refused request leaves the state as it was (R10). -/
def refused (status : Status) : Handler := fun s => (s, refusal status)

/-- What is handed back by the owner, or by the screening of tag 0 (R8, step 1). -/
def handled (tag : Byte) (h : Handler) (s : State) : State × Answer :=
  if tag = 0 then (s, refusal .unknownRequest) else h s

/-- The reply formed from an answer, its header flags sampled (R9). -/
def formReply (tag : Byte) (a : Answer) (s : State) : Reply := ⟨tag, a.status, s.health.summary, s.clock.isSet, a.payload⟩

/-- The reply becomes ready, the notices that arose waiting behind it (R9, R12, R13). -/
def answered (tag : Byte) (a : Answer) (after : List Notice) (s : State) : State :=
  let service : Service := ⟨formReply tag a s, after, a.resetAfter⟩
  arbitrate (modifyLink (fun l => { l with service := l.service ++ [service] }) s)

/-- A request is handled whole: the owner acts, idle trunks decide, and the reply is formed (R8, R9, R12). -/
def serve (tag : Byte) (h : Handler) (s : State) : State :=
  let r := handled tag h s
  let settled := settleTrunks r.1
  answered tag r.2 settled.outbox { settled with outbox := [] }

/-- A request row (notes/assumptions/2.md). -/
def request (tag : Byte) (h : Handler) (s : State) : Host.Outcome State Fault Refusal := .next (serve tag h s)

/-! ### The receiver (R4–R7) -/

/-- The receiver with nothing held. -/
def Receiver.idle : Receiver := ⟨.hunt, [], 0⟩

/-- A good frame is offered to the input queue (R7). -/
def offer (f : Frame) (s : State) : State :=
  if s.link.queue.length < Config.inputQueue then modifyLink (fun l => { l with queue := l.queue ++ [f] }) s
  else produce (.linkDropped f.tag) s

/-- The frame whose LENGTH and body bytes are covered. -/
def frameOf : List Byte → Frame
  | _ :: _ :: kind :: tag :: payload => ⟨kind, tag, payload⟩
  | _ => ⟨0, 0, []⟩

/-- The last CHECK byte has come: the frame is judged (R6). -/
def judgeFrame (held : List Byte) (last : Byte) (s : State) : State :=
  match held.getLast? with
  | some c1 =>
    let covered := held.dropLast
    if digest covered = readDigest c1 last then offer (frameOf covered) s else s
  | none => s

/-- The receiver after a byte with a good stop bit, before a complete frame is judged (R4). -/
def advance (r : Receiver) (b : Byte) : Receiver :=
  match r.state with
  | .hunt => if b = 0xA5 then ⟨.length, [], 2⟩ else r
  | .length =>
    match r.held with
    | hi :: _ =>
      let n := nat16 hi b
      if 2 ≤ n ∧ n ≤ Config.frameBody then ⟨.body, [hi, b], n⟩ else Receiver.idle
    | [] => ⟨.length, [b], 1⟩
  | .body => if r.expected ≤ 1 then ⟨.check, r.held ++ [b], 2⟩ else ⟨.body, r.held ++ [b], r.expected - 1⟩
  | .check => if r.expected ≤ 1 then Receiver.idle else ⟨.check, r.held ++ [b], 1⟩

/-- The byte completes a frame (R4). -/
def completes (r : Receiver) : Bool := r.state == .check && decide (r.expected ≤ 1)

/-- A byte with a good stop bit is received (R4, R6, R7). -/
def receiveByte (b : Byte) (s : State) : State :=
  let r := s.link.receiver
  let advanced := modifyLink (fun l => { l with receiver := advance r b }) s
  if completes r then judgeFrame r.held b advanced else advanced

/-- The frame being assembled is abandoned (R5). -/
def abandonFrame (s : State) : State := modifyLink (fun l => { l with receiver := Receiver.idle }) s

/-! ### The full reset (R1, R16) -/

/-- The bit rate of the straps (R1). -/
def bitRate (strap1 strap0 : Level) : Nat :=
  match strap1, strap0 with
  | .low, .low => 57600
  | .low, .high => 115200
  | .high, .low => 230400
  | .high, .high => 460800

/-- The lines after a full reset: OFF, each at the level outside puts on it (R66, R77; notes/assumptions/9.md). -/
def resetLines (t : Table Line) : Table Line :=
  (mapTable (fun _ (x : Line) => ⟨x.input, .off⟩) t).filter fun e => e.2 != Line.reset

/-- The trunks after a full reset: their attention lines stay as outside drives them (R179; notes/assumptions/10.md). -/
def resetTrunks (t : Table Trunk) : Table Trunk :=
  (mapTable (fun _ (x : Trunk) => { Trunk.reset with attention := x.attention }) t).filter fun e => e.2 != Trunk.reset

/-- The pins after a full reset: the reset of the RESET pin is its release, that of power-on ends the absence of power, and
the straps are sampled (R16; notes/assumptions/11.md). -/
def resetPins (cause : ResetCause) (strap1 strap0 : Level) (p : Pins) : Pins :=
  { p with
    resetHeld := p.resetHeld && cause != .pin
    powerAbsent := p.powerAbsent && cause != .powerOn
    strap1 := strap1
    strap0 := strap0 }

/-- READY is produced: on the line at once, or waiting while the part may not transmit (R12, R13, R16). -/
def sendReady (cause : ResetCause) (s : State) : State :=
  if silenced s then modifyLink (fun l => { l with line := .idle, notices := [.ready cause] }) s else s

/-- A full reset (R16, R18, R43, R64, R77, R95, R125, R154, R179, R200). The commands still waiting stay waiting
(notes/assumptions/31.md). -/
def fullReset (cause : ResetCause) (strap1 strap0 : Level) (s : State) : State :=
  sendReady cause
    { State.reset with
      pending := s.pending
      pins := resetPins cause strap1 strap0 s.pins
      link := Link.reset (bitRate strap1 strap0) cause
      sense := ⟨resetLines s.sense.lines, [], [], []⟩
      trunks := resetTrunks s.trunks }

/-- The level a strap pin shows at the reset of the n-th RESTART FULL: a free value (R1; notes/assumptions/8.md). -/
def strapAt (pin n : Nat) : Level := if Config.strapHigh pin n then .high else .low

/-- The reset that follows a RESTART FULL. It samples the straps as they stand at that moment, whatever they show (R1, R16,
R17). -/
def restartReset (s : State) : State :=
  let n := s.pins.restarts
  fullReset .restart (strapAt 1 n) (strapAt 0 n) { s with pins := { s.pins with restarts := n + 1 } }

/-- A frame has left the line (R8, R12, R13, R17). -/
def frameLeaves (s : State) : State :=
  match s.link.line with
  | .idle => s
  | .notice n =>
    let ready := match n with
      | .ready _ => true
      | _ => s.link.readySent
    arbitrate (modifyLink (fun l => { l with line := .idle, lastSent := .notice, readySent := ready }) s)
  | .reply =>
    match s.link.service with
    | [] => arbitrate (modifyLink (fun l => { l with line := .idle, lastSent := .reply }) s)
    | done :: rest =>
      if done.resetAfter then restartReset s
      else
        arbitrate (modifyLink (fun l =>
          done.after.foldl (fun acc n => joinNotice n acc)
            { l with line := .idle, lastSent := .reply, service := rest }) s)

/-- The bytes of the frame on the line (R2, R3). -/
def frameBytes (l : Link) : List Byte :=
  match l.line, l.service with
  | .idle, _ => []
  | .notice n, _ => noticeFrame n
  | .reply, r :: _ => replyFrame r.reply
  | .reply, [] => []

end Sys2Proof.Machine
end

