-- ==== Sys2Proof/Machine/LinkCommands.lean ====
section
/-! DEFINITION. The Link Interface's commands: reception, transmission, full reset, pins, IDENTIFY and STATUS (R4–R16). -/

namespace Sys2Proof.Machine

/-- BYTE_RECEIVED (R4, R6, R7). A silenced part does not receive (R16). -/
def execByteReceived (b : Byte) (s : State) : Host.Outcome State Fault Refusal :=
  event (fun x => if silenced x then x else receiveByte b x) s

/-- BAD_STOP_BIT (R5). -/
def execBadStopBit (s : State) : Host.Outcome State Fault Refusal :=
  event (fun x => if silenced x then x else abandonFrame x) s

/-- RECEIVE_GAP_TIMEOUT (R5). -/
def execReceiveGapTimeout (s : State) : Host.Outcome State Fault Refusal :=
  event (fun x => if silenced x then x else abandonFrame x) s

/-- FRAME_TRANSMITTED, with the strap levels a full reset would sample (R1, R12, R13, R17). -/
def execFrameTransmitted (s : State) : Host.Outcome State Fault Refusal :=
  event frameLeaves s

/-- FULL_RESET (R16). A row whose occasion does not exist (cause RESTART with no reply of a RESTART FULL just ended, cause PIN
with the pin not held, cause POWER_ON with the power never absent) is carried out all the same: the model's choice, since R16
names the occasions and says nothing of the row without one (DESIGN CHOICE, notes/assumptions/1.md). -/
def execFullReset (cause : ResetCause) (strap1 strap0 : Level) (s : State) : Host.Outcome State Fault Refusal :=
  .next (fullReset cause strap1 strap0 s)

/-- The part falls silent: a frame on the line is cut short (R16; notes/assumptions/11.md). -/
def cutFrame (s : State) : State := modifyLink (fun l => { l with line := .idle }) s

/-- RESET_PIN_ACTIVE (R16). -/
def execResetPinActive (s : State) : Host.Outcome State Fault Refusal :=
  event (fun x => cutFrame { x with pins := { x.pins with resetHeld := true } }) s

/-- POWER_ABSENT (R16). -/
def execPowerAbsent (s : State) : Host.Outcome State Fault Refusal :=
  event (fun x => cutFrame { x with pins := { x.pins with powerAbsent := true } }) s

/-- The payload of IDENTIFY (R14). -/
def identifyPayload : List Byte :=
  u16 Config.vendorCode ++ u16 Config.partCode ++ u8 Config.siliconStep ++ Config.capacities.flatMap u32

/-- IDENTIFY's handling (R14). -/
def handleIdentify : Handler := fun s => (s, ok identifyPayload)

/-- IDENTIFY (R14). -/
def execIdentify (tag : Byte) (s : State) : Host.Outcome State Fault Refusal := request tag handleIdentify s

/-- The payload of STATUS (R15). That the plate count and the waiting requests take one byte each is the model's choice: the
Field widths table of spec/10 names neither (notes/assumptions/19.md). -/
def statusPayload (s : State) : List Byte :=
  flag s.clock.isSet ++ u16 s.table.entries.length ++ u16 s.plates.freeCount ++ u8 s.plates.plates.length ++
    (upTo Config.trunks).flatMap (fun t => u8 (trunkStateCode (trunkOf s t).state)) ++ flag s.health.summary ++
    u8 s.link.queue.length ++ flag s.link.overflow

/-- STATUS's handling: the overflow flag is reported and cleared (R15). -/
def handleStatus : Handler := fun s => (modifyLink (fun l => { l with overflow := false }) s, ok (statusPayload s))

/-- STATUS (R15). -/
def execStatus (tag : Byte) (s : State) : Host.Outcome State Fault Refusal := request tag handleStatus s

end Sys2Proof.Machine
end

