-- ==== Sys2Proof/Machine/ClockCommands.lean ====
section
/-! DEFINITION. The Venue Clock's commands, the minute event and the purge (R18–R23, R38, R39). -/

namespace Sys2Proof.Machine

/-! ### Purging -/

/-- An entry has ended at minute n (R38). -/
def hasEnded (s : State) (n : Nat) (e : Entry) : Bool := decide (e.stop + (timingOf s e.room).l ≤ n)

/-- A MOVED tombstone whose target is one of the sessions (R38). -/
def targetsOneOf (removed : List Nat) (e : Entry) : Bool :=
  match e.what with
  | .tombstone _ (some goal) => removed.contains goal
  | .tombstone _ none => false
  | .session _ _ => false

/-- The entries a purge at minute n leaves (R38). -/
def purgedEntries (s : State) (n : Nat) : List Entry :=
  let removed := (s.table.entries.filter (hasEnded s n)).filterMap sessionNumber
  s.table.entries.filter fun e => !hasEnded s n e && !targetsOneOf removed e

/-- The table's entries replaced, with their plate references (R36, R39). -/
def replaceEntries (after : List Entry) (s : State) : State :=
  moveTimetableRefs s.table.entries after { s with table := { s.table with entries := after } }

/-- A purge at minute n (R38, R39). Its table-change notice is taken with the minute event's own resolution of every sign
and hall (R23; notes/assumptions/14.md). -/
def purge (n : Nat) (s : State) : State := replaceEntries (purgedEntries s n) s

/-- A minute event: the purge, then every sign resolved and every hall evaluated (R23). -/
def minuteEvent (s : State) : State := resolveAll (purge (venueMinute s) s)

/-! ### The clock -/

/-- The reading at which the clock holds (R20). -/
def atLimit (c : Clock) : Bool := c.day == 65535 && c.minute == 1439 && c.second == 59

/-- The reading after one second (R19). -/
def nextReading (c : Clock) : Clock :=
  if c.second < 59 then { c with second := c.second + 1 }
  else if c.minute < 1439 then { c with second := 0, minute := c.minute + 1 }
  else if c.day < 65535 then { c with second := 0, minute := 0, day := c.day + 1 }
  else c

/-- An advance of this reading raises a minute event (R19). -/
def turnsMinute (c : Clock) : Bool := !(decide (c.second < 59)) && !(decide (1439 ≤ c.minute ∧ 65535 ≤ c.day))

/-- The reading's fields as CLOCK_SET and CLOCK_READ report them. -/
def readingBytes (c : Clock) : List Byte := u16 c.day ++ u16 c.minute ++ u8 c.second

/-- The end of the running interval (R19). -/
def endInterval (s : State) : State :=
  match s.clock.intervalEnd with
  | none => s
  | some ends =>
    let next := { nextReading s.clock with intervalEnd := some (ends + Config.second) }
    let ticked := reachInstant ends { s with clock := next }
    if turnsMinute s.clock then minuteEvent ticked else ticked

/-- CLOCK_INTERVAL_END (R19, R20). -/
def execClockIntervalEnd (s : State) : Host.Outcome State Fault Refusal := event endInterval s

/-- The three values are a reading (R21). -/
def validReading (day minute second : Nat) : Bool := day ≤ 65535 && minute ≤ 1439 && second ≤ 59

/-- CLOCK_SET's handling (R21). -/
def handleClockSet (day minute second : Nat) : Handler := fun s =>
  if validReading day minute second then
    let clock : Clock := ⟨true, day, minute, second, some (s.now + Config.second)⟩
    (minuteEvent { s with clock := clock }, ok (readingBytes clock))
  else refused .outOfRange s

/-- CLOCK_SET (R21). -/
def execClockSet (tag : Byte) (day minute second : Nat) (s : State) : Host.Outcome State Fault Refusal :=
  request tag (handleClockSet day minute second) s

/-- The payload of CLOCK_READ (R22). -/
def clockPayload (s : State) : List Byte :=
  if s.clock.isSet then flag true ++ readingBytes s.clock ++ u32 (venueMinute s) ++ flag (atLimit s.clock)
  else flag false ++ u16 0 ++ u16 0 ++ u8 0 ++ u32 0 ++ flag false

/-- CLOCK_READ's handling (R22). -/
def handleClockRead : Handler := fun s => (s, ok (clockPayload s))

/-- CLOCK_READ (R22). -/
def execClockRead (tag : Byte) (s : State) : Host.Outcome State Fault Refusal := request tag handleClockRead s

end Sys2Proof.Machine
end

