-- ==== Sys2Proof/Machine/TimetableCommands.lean ====
section
/-! DEFINITION. The Timetable's commands: TT_APPLY with its six operations, ROOM_TIMING, TT_READ (R24–R37, R40–R42). -/

namespace Sys2Proof.Machine

/-! ### Order and the overlap law (R25–R27) -/

/-- The key of table order (R25). -/
def entryKey (e : Entry) : List Nat :=
  match e.what with
  | .session _ false => [e.room, e.start, 0, 0]
  | .session n true => [e.room, e.start, 1, n]
  | .tombstone c _ => [e.room, e.start, 2, c]

/-- An entry put at its place (R25). -/
def insertEntry (e : Entry) (es : List Entry) : List Entry := insertBy entryKey e es

/-- The entries without the SESSION of a number. -/
def withoutSession (number : Nat) (es : List Entry) : List Entry := es.filter fun e => sessionNumber e != some number

/-- Two room definitions share a segment; one shares all with itself (R27). -/
def sharesSegment (s : State) (r q : Nat) : Bool :=
  r == q || (roomSegments s r).any fun g => (roomSegments s q).contains g

/-- A SCHEDULED session of another number overlaps the interval in a room that shares a segment (R27). -/
def overlapsLaw (s : State) (es : List Entry) (number room start stop : Nat) : Bool :=
  es.any fun e =>
    isScheduled e && sessionNumber e != some number && sharesSegment s e.room room &&
      decide (start < e.stop) && decide (e.start < stop)

/-! ### The working copy (R28) -/

/-- The working copy of a TT_APPLY: the entries and the next creation number (R24, R28). -/
structure WorkingCopy where
  entries : List Entry
  nextCreation : Nat
deriving DecidableEq, Repr

/-- The outcome of one operation: a refusal, or the working copy it leaves and whether it was adjusted. -/
inductive OpOutcome
  | fails (status : Status)
  | done (copy : WorkingCopy) (adjusted : Bool)
deriving DecidableEq, Repr

/-- A venue minute (spec/00 Venue minutes). -/
def isVenueMinute (m : Nat) : Bool := m ≤ Config.lastMinute

/-- An interval of an entry (R24). -/
def isInterval (start stop : Nat) : Bool := start < stop && stop - start ≤ 1440

/-- A session number (R24). -/
def isSessionNumber (n : Nat) : Bool := within Config.lastSession n

/-- A plate field names no plate, or a READY one (R85). -/
def plateAllowed (s : State) (id : Nat) : Bool := id == 0 || isReady s id

/-- A room definition is defined. -/
def roomDefined (s : State) (room : Nat) : Bool := isListed s.layout.rooms room

/-- An optional field passes a test whenever it is present. -/
def presentAnd (v : Option Nat) (f : Nat → Bool) : Bool :=
  match v with
  | none => true
  | some n => f n

/-- ADD (R29). -/
def applyAdd (s : State) (w : WorkingCopy) (number room start stop title banner priv : Nat) : OpOutcome :=
  if !(isSessionNumber number && within Config.rooms room && isVenueMinute start && isVenueMinute stop &&
      isInterval start stop && decide (priv ≤ 1)) then .fails .outOfRange
  else if (sessionEntry w.entries number).isSome then .fails .exists
  else if !(roomDefined s room && plateAllowed s title && plateAllowed s banner) then .fails .notFound
  else if overlapsLaw s w.entries number room start stop then .fails .overlap
  else if Config.entries ≤ w.entries.length then .fails .full
  else
    .done { w with entries := insertEntry ⟨.session number false, room, start, stop, title, banner, priv == 1⟩ w.entries }
      false

/-- An entry with the present values of an AMEND (R30). -/
def amendedEntry (e : Entry) (start stop title banner priv : Option Nat) : Entry :=
  { e with
    start := start.getD e.start
    stop := stop.getD e.stop
    title := title.getD e.title
    banner := banner.getD e.banner
    priv := match priv with
      | some v => v == 1
      | none => e.priv }

/-- AMEND (R30). -/
def applyAmend (s : State) (w : WorkingCopy) (number : Nat) (start stop title banner priv : Option Nat) : OpOutcome :=
  if !(isSessionNumber number && presentAnd start isVenueMinute && presentAnd stop isVenueMinute &&
      presentAnd priv fun v => decide (v ≤ 1)) then .fails .outOfRange
  else
    match sessionEntry w.entries number with
    | none => .fails .notFound
    | some e =>
      let new := amendedEntry e start stop title banner priv
      if !isScheduled e then .fails .wrongMode
      else if !isInterval new.start new.stop then .fails .outOfRange
      else if !(presentAnd title (plateAllowed s) && presentAnd banner (plateAllowed s)) then .fails .notFound
      else if (start.isSome || stop.isSome) && overlapsLaw s w.entries number e.room new.start new.stop then
        .fails .overlap
      else .done { w with entries := insertEntry new (withoutSession number w.entries) } false

/-- A MOVED tombstone of a room definition for a target (R26). -/
def isTombstoneFor (room goal : Nat) (e : Entry) : Bool :=
  match e.what with
  | .tombstone _ (some n) => e.room == room && n == goal
  | .tombstone _ none => false
  | .session _ _ => false

/-- The tombstones that go with a MOVE: the returned-to one removed, a new one made if room and numbers allow (R32). -/
def moveTombstones (w : WorkingCopy) (old : Entry) (number newRoom : Nat) : OpOutcome :=
  let cleared := w.entries.filter fun e => !isTombstoneFor newRoom number e
  if cleared.length < Config.entries ∧ w.nextCreation ≤ Config.lastCreation then
    .done ⟨insertEntry { old with what := .tombstone w.nextCreation (some number) } cleared, w.nextCreation + 1⟩ false
  else .done { w with entries := cleared } true

/-- MOVE (R31). -/
def applyMove (s : State) (w : WorkingCopy) (number room : Nat) (start stop : Option Nat) : OpOutcome :=
  if !(isSessionNumber number && within Config.rooms room && presentAnd start isVenueMinute &&
      presentAnd stop isVenueMinute) then .fails .outOfRange
  else
    match sessionEntry w.entries number with
    | none => .fails .notFound
    | some e =>
      let newStart := start.getD e.start
      let newStop := stop.getD e.stop
      if !isScheduled e then .fails .wrongMode
      else if e.room == room || !isInterval newStart newStop then .fails .outOfRange
      else if !roomDefined s room then .fails .notFound
      else if overlapsLaw s w.entries number room newStart newStop then .fails .overlap
      else
        let moved : Entry := { e with room := room, start := newStart, stop := newStop }
        moveTombstones { w with entries := insertEntry moved (withoutSession number w.entries) } e number room

/-- A MOVED tombstone whose target is the session becomes CANCELLED (R33, R34). -/
def convertTombstone (number : Nat) (e : Entry) : Entry :=
  match e.what with
  | .tombstone c (some n) => if n = number then { e with what := .tombstone c none } else e
  | .tombstone _ none => e
  | .session _ _ => e

/-- CANCEL (R33). -/
def applyCancel (w : WorkingCopy) (number : Nat) : OpOutcome :=
  if !isSessionNumber number then .fails .outOfRange
  else
    match sessionEntry w.entries number with
    | none => .fails .notFound
    | some e =>
      if !isScheduled e then .fails .wrongMode
      else
        let converted := (withoutSession number w.entries).map (convertTombstone number)
        .done { w with entries := insertEntry { e with what := .session number true } converted } false

/-- REMOVE (R34). -/
def applyRemove (w : WorkingCopy) (number : Nat) : OpOutcome :=
  if !isSessionNumber number then .fails .outOfRange
  else
    match sessionEntry w.entries number with
    | none => .fails .notFound
    | some _ => .done { w with entries := (withoutSession number w.entries).map (convertTombstone number) } false

/-- A tombstone of a room definition that starts at a minute (R35). -/
def isTombstoneAt (room start : Nat) (e : Entry) : Bool :=
  match e.what with
  | .tombstone _ _ => e.room == room && e.start == start
  | .session _ _ => false

/-- DISMISS (R35). -/
def applyDismiss (w : WorkingCopy) (room start : Nat) : OpOutcome :=
  if !(within Config.rooms room && isVenueMinute start) then .fails .outOfRange
  else if !(w.entries.any (isTombstoneAt room start)) then .fails .notFound
  else .done { w with entries := w.entries.filter fun e => !isTombstoneAt room start e } false

/-- One operation applied to the working copy (R28). -/
def applyOp (s : State) (w : WorkingCopy) (op : TtOp) : OpOutcome :=
  match op with
  | .add n r b e t k p => applyAdd s w n r b e t k p
  | .amend n b e t k p => applyAmend s w n b e t k p
  | .move n r b e => applyMove s w n r b e
  | .cancel n => applyCancel w n
  | .remove n => applyRemove w n
  | .dismiss r b => applyDismiss w r b

/-- The outcome of a list of operations: the refusal with its index, or the working copy and the adjusted indexes. -/
inductive BatchOutcome
  | fails (status : Status) (index : Nat)
  | done (copy : WorkingCopy) (adjusted : List Nat)
deriving DecidableEq, Repr

/-- The operations applied in order from an index, each on what the ones before it left (R28). -/
def applyOps (s : State) : (index : Nat) → List TtOp → WorkingCopy → (adjusted : List Nat) → BatchOutcome
  | _, [], w, adjusted => .done w adjusted
  | index, op :: ops, w, adjusted =>
    match applyOp s w op with
    | .fails status => .fails status index
    | .done next a => applyOps s (index + 1) ops next (if a then adjusted ++ [index] else adjusted)

/-- The touched room definitions of a commit (R37): those whose entries differ between the replaced table and the committed
one. That operations of one request which undo each other touch nothing, a MOVE away and back among them, is the model's
reading (DEDUCED; notes/assumptions/37.md). -/
def touchedRooms (before after : List Entry) : List Nat :=
  (upTo Config.rooms).filter fun r => (before.filter fun e => e.room == r) != (after.filter fun e => e.room == r)

/-- The commit of a working copy (R28, R36, R37). -/
def commit (w : WorkingCopy) (s : State) : State :=
  let touched := touchedRooms s.table.entries w.entries
  let placed := replaceEntries w.entries s
  tableChange touched { placed with table := { placed.table with nextCreation := w.nextCreation } }

/-- TT_APPLY's handling (R28). -/
def handleTtApply (ops : List TtOp) : Handler := fun s =>
  if within Config.operations ops.length then
    match applyOps s 1 ops ⟨s.table.entries, s.table.nextCreation⟩ [] with
    | .fails status index => (s, ⟨status, u8 index, false⟩)
    | .done w adj =>
      (commit w s,
        if adj.isEmpty then ok (u16 w.entries.length) else adjusted (u16 w.entries.length ++ listBytes u8 adj))
  else (s, ⟨.outOfRange, u8 0, false⟩)

/-- TT_APPLY (R28). -/
def execTtApply (tag : Byte) (ops : List TtOp) (s : State) : Host.Outcome State Fault Refusal :=
  request tag (handleTtApply ops) s

/-! ### Timing and reading (R40–R42) -/

/-- A timing record's bytes. -/
def timingBytes (t : Timing) : List Byte := u8 t.a ++ u8 t.d ++ u8 t.l

/-- A room definition's timing record set (R40, R41). -/
def setTiming (room : Nat) (t : Timing) (s : State) : State :=
  { s with table := { s.table with timing := assign s.table.timing room t } }

/-- A room definition's timing record discarded (R40). -/
def dropTiming (room : Nat) (s : State) : State :=
  { s with table := { s.table with timing := erase s.table.timing room } }

/-- ROOM_TIMING's handling (R41). -/
def handleRoomTiming (room a d l : Nat) : Handler := fun s =>
  if !(within Config.rooms room && decide (a ≤ 240) && decide (d ≤ 60) && decide (l ≤ 30)) then refused .outOfRange s
  else if !roomDefined s room then refused .notFound s
  else
    let record : Timing := ⟨a, min d a, l⟩
    (tableChange [room] (setTiming room record s),
      if a < d then adjusted (timingBytes record) else ok (timingBytes record))

/-- ROOM_TIMING (R41). -/
def execRoomTiming (tag : Byte) (room a d l : Nat) (s : State) : Host.Outcome State Fault Refusal :=
  request tag (handleRoomTiming room a d l) s

/-- An entry's bytes in TT_READ, the fields of R24 in order, absent ones 0 (R42; notes/assumptions/19.md, 20.md). -/
def entryBytes (e : Entry) : List Byte :=
  let fields : Nat × Nat × Nat × Nat × Nat := match e.what with
    | .session n false => (0, n, 0, 0, 0)
    | .session n true => (0, n, 1, 0, 0)
    | .tombstone c (some goal) => (1, 0, 2, goal, c)
    | .tombstone c none => (1, 0, 1, 0, c)
  u8 fields.1 ++ u16 fields.2.1 ++ u8 e.room ++ u32 e.start ++ u32 e.stop ++ u8 fields.2.2.1 ++ u8 e.title ++
    u8 e.banner ++ flag e.priv ++ u16 fields.2.2.2.1 ++ u32 fields.2.2.2.2

/-- The qualifying entries of a TT_READ (R42). -/
def qualifying (s : State) (room start : Nat) : List Entry :=
  s.table.entries.filter fun e => (room == 0 || e.room == room) && decide (start ≤ e.start)

/-- TT_READ's handling (R42). -/
def handleTtRead (room start skip count : Nat) : Handler := fun s =>
  if !(decide (room ≤ Config.rooms) && isVenueMinute start && decide (skip ≤ 1023) && within 32 count) then
    refused .outOfRange s
  else if room != 0 && !roomDefined s room then refused .notFound s
  else
    let rest := (qualifying s room start).drop skip
    let page := rest.take count
    (s, ok (u8 page.length ++ flag (decide (count < rest.length)) ++ page.flatMap entryBytes))

/-- TT_READ (R42). -/
def execTtRead (tag : Byte) (room start skip count : Nat) (s : State) : Host.Outcome State Fault Refusal :=
  request tag (handleTtRead room start skip count) s

end Sys2Proof.Machine
end

