-- ==== Sys2Proof/Machine/LayoutCommands.lean ====
section
/-! DEFINITION. The Layout Unit's commands (R44–R63). -/

namespace Sys2Proof.Machine

/-! ### Records -/

/-- A segment number (R44). -/
def isSegment (g : Nat) : Bool := within Config.segments g

/-- A segment list a hall or room definition may have (R45, R52). -/
def isSegmentList (gs : List Nat) : Bool := within Config.segmentsPerHall gs.length && gs.all isSegment && allDistinct gs

/-- A hall's record as replies report it (notes/assumptions/19.md). -/
def hallBytes (h : Nat) (x : Hall) : List Byte := u8 h ++ listBytes u8 x.segments ++ u8 x.plate

/-- A sign of the sign table names a segment (R44). -/
def signsName (s : State) (test : Nat → Bool) : Bool := s.resolver.signs.any fun e => signNames test e.2

/-- A hall is referenced (R44). -/
def isReferenced (s : State) (h : Nat) : Bool :=
  (s.layout.rooms.any fun e => e.2.hall == h) || (s.layout.walls.any fun e => e.2.hall == h) ||
    signsName s fun g => hallOfSegment s g == some h

/-- A hall's name plate, 0 if undefined. -/
def hallPlate (s : State) (h : Nat) : Nat :=
  match lookup s.layout.halls h with
  | some x => x.plate
  | none => 0

/-- The segments of a hall, none if undefined. -/
def hallSegments (s : State) (h : Nat) : List Nat :=
  match lookup s.layout.halls h with
  | some x => x.segments
  | none => []

/-! ### Halls (R45, R46) -/

/-- The record HALL_DEFINE leaves: renamed with its formation kept, or new (R45). -/
def definedHall (s : State) (h : Nat) (segments : List Nat) (plate : Nat) : Hall :=
  match lookup s.layout.halls h with
  | some x =>
    if x.segments = segments then { x with plate := plate }
    else ⟨segments, plate, segments.map fun g => ⟨[g], none⟩, false⟩
  | none => ⟨segments, plate, segments.map fun g => ⟨[g], none⟩, false⟩

/-- HALL_DEFINE's handling (R45). -/
def handleHallDefine (h : Nat) (list : List Nat) (plate : Nat) : Handler := fun s =>
  let segments := sortNumbers list
  if !(within Config.halls h && isSegmentList list && plate != 0) then refused .outOfRange s
  else if segments.any fun g => match hallOfSegment s g with
      | some other => other != h
      | none => false then refused .exists s
  else if isListed s.layout.halls h && hallSegments s h != segments && isReferenced s h then refused .inUse s
  else if !isReady s plate then refused .notFound s
  else
    let record := definedHall s h segments plate
    let defined := setHall h record (moveLayoutRef (hallPlate s h) plate s)
    (formationEvent [h] true defined, ok (hallBytes h record))

/-- HALL_DEFINE (R45). -/
def execHallDefine (tag : Byte) (h : Nat) (list : List Nat) (plate : Nat) (s : State) :
    Host.Outcome State Fault Refusal :=
  request tag (handleHallDefine h list plate) s

/-- HALL_REMOVE's handling (R46). -/
def handleHallRemove (h : Nat) : Handler := fun s =>
  if !within Config.halls h then refused .outOfRange s
  else if !isListed s.layout.halls h then refused .notFound s
  else if isReferenced s h then refused .inUse s
  else
    let released := moveLayoutRef (hallPlate s h) 0 s
    ({ released with layout := { released.layout with halls := erase released.layout.halls h } }, ok [])

/-- HALL_REMOVE (R46). -/
def execHallRemove (tag : Byte) (h : Nat) (s : State) : Host.Outcome State Fault Refusal :=
  request tag (handleHallRemove h) s

/-! ### Walls (R48–R50) -/

/-- A line enters WALL mode: its filter starts from the level it reads (R68, R72). -/
def enterWallMode (w l : Nat) (s : State) : State :=
  let input := (lineOf s l).input
  setLine l ⟨input, .wall ⟨none, some (input, s.now + Config.filterTime)⟩ w⟩ s

/-- A line returns to OFF (R72, R75). -/
def enterOffMode (l : Nat) (s : State) : State := setLine l ⟨(lineOf s l).input, .off⟩ s

/-- A line is OFF. -/
def isOff (s : State) (l : Nat) : Bool :=
  match (lineOf s l).mode with
  | .off => true
  | .contact _ _ _ _ _ _ => false
  | .wall _ _ => false
  | .lamp _ _ => false

/-- The wall state of a code that a request may carry (R203). -/
def positionOf (code : Nat) : Option WallState :=
  if code = 1 then some .opened else if code = 2 then some .closed else none

/-- The source fields of WALL_DEFINE lie in their ranges (R48, check 1). -/
def sourceAllowed (source x y : Nat) : Bool :=
  (source == 1 && within Config.lines x && within Config.lines y && x != y) ||
    (source == 2 && (positionOf x).isSome)

/-- A wall's record as WALL_DEFINE's reply reports it, its hold absent (R48; notes/assumptions/19.md). That its source is
coded SENSED 1, MANUAL 2, as WALL_DEFINE's own request codes it, and not by place from 0, is the model's choice
(notes/assumptions/20.md). -/
def wallBytes (w : Nat) (x : Wall) : List Byte :=
  let source : List Byte := match x.source with
    | .sensed c o raw _ => u8 1 ++ u8 c ++ u8 o ++ u8 (rawStateCode raw) ++ [0, 0, 0]
    | .manual => [2, 0, 0, 0, 0, 0, 0]
  u8 w ++ u8 x.hall ++ u8 x.segA ++ u8 x.segB ++ source ++ u8 (wallStateCode x.settled)

/-- The wall WALL_DEFINE makes (R48). -/
def newWall (h a b source x y : Nat) : Wall :=
  if source = 1 then ⟨h, a, b, .sensed x y .moving none, .unknown⟩
  else ⟨h, a, b, .manual, (positionOf x).getD .closed⟩

/-- WALL_DEFINE's handling (R48). -/
def handleWallDefine (w a b source x y : Nat) : Handler := fun s =>
  if !(within Config.walls w && isSegment a && isSegment b && a != b && sourceAllowed source x y) then
    refused .outOfRange s
  else if isListed s.layout.walls w then refused .exists s
  else
    match hallOfSegment s a, hallOfSegment s b with
    | some h, some k =>
      if h ≠ k then refused .outOfRange s
      else if joined s (fun _ _ => true) a b then refused .exists s
      else if source == 1 && !(isOff s x && isOff s y) then refused .inUse s
      else
        let wall := newWall h a b source x y
        let lined := if source = 1 then enterWallMode w y (enterWallMode w x s) else s
        (recomputeReconfiguring h (formationEvent [h] false (setWall w wall lined)), ok (wallBytes w wall))
    | _, _ => refused .notFound s

/-- WALL_DEFINE (R48). -/
def execWallDefine (tag : Byte) (w a b source x y : Nat) (s : State) : Host.Outcome State Fault Refusal :=
  request tag (handleWallDefine w a b source x y) s

/-- A room definition needs a wall: connected with it, not without it (R49). -/
def needsWall (s : State) (w : Nat) (r : Room) : Bool :=
  connected s (fun _ _ => true) r.segments && !connected s (fun n _ => n != w) r.segments

/-- The lines of a SENSED wall return to OFF (R49, R72). -/
def releaseLines (x : Wall) (s : State) : State :=
  match x.source with
  | .sensed c o _ _ => enterOffMode o (enterOffMode c s)
  | .manual => s

/-- WALL_REMOVE's handling (R49). -/
def handleWallRemove (w : Nat) : Handler := fun s =>
  if !within Config.walls w then refused .outOfRange s
  else
    match lookup s.layout.walls w with
    | none => refused .notFound s
    | some x =>
      if s.layout.rooms.any fun e => e.2.hall == x.hall && needsWall s w e.2 then refused .inUse s
      else
        let off := releaseLines x s
        let removed := { off with layout := { off.layout with walls := erase off.layout.walls w } }
        (recomputeReconfiguring x.hall (formationEvent [x.hall] false removed), ok [])

/-- WALL_REMOVE (R49). -/
def execWallRemove (tag : Byte) (w : Nat) (s : State) : Host.Outcome State Fault Refusal :=
  request tag (handleWallRemove w) s

/-- WALL_SET's handling (R50). -/
def handleWallSet (w code : Nat) : Handler := fun s =>
  match positionOf code with
  | none => refused .outOfRange s
  | some v =>
    if !within Config.walls w then refused .outOfRange s
    else
      match lookup s.layout.walls w with
      | none => refused .notFound s
      | some x =>
        match x.source with
        | .sensed _ _ _ _ => refused .wrongMode s
        | .manual => (if x.settled = v then s else settleWall w x v s, ok (u8 (wallStateCode v)))

/-- WALL_SET (R50). -/
def execWallSet (tag : Byte) (w code : Nat) (s : State) : Host.Outcome State Fault Refusal :=
  request tag (handleWallSet w code) s

/-- A wall's hold runs out (R57). -/
def endHold (w : Nat) (s : State) : State :=
  match lookup s.layout.walls w with
  | none => s
  | some x =>
    match x.source with
    | .sensed c o raw (some hold) =>
      settleWall w { x with source := .sensed c o raw none } (if hold.opened then .opened else .closed)
        (reachInstant hold.ends s)
    | .sensed _ _ _ none => s
    | .manual => s

/-- WALL_HOLD_EXPIRY (R57). -/
def execWallHoldExpiry (w : Nat) (s : State) : Host.Outcome State Fault Refusal :=
  if within Config.walls w then event (endHold w) s else .fault (.noSuchWall w)

/-! ### Room definitions (R52, R53) -/

/-- A room definition has entries in the timetable (R52, R53). -/
def hasEntries (s : State) (room : Nat) : Bool := s.table.entries.any fun e => e.room == room

/-- A room definition's record with its timing (R52). -/
def roomBytes (room : Nat) (x : Room) (t : Timing) : List Byte :=
  u8 room ++ u8 x.hall ++ listBytes u8 x.segments ++ u8 x.plate ++ timingBytes t

/-- The default timing record (R40). -/
def defaultTiming : Timing := ⟨60, 15, 5⟩

/-- The hall of a room definition, none if undefined. -/
def hallOfRoom (s : State) (room : Nat) : Option Nat := (lookup s.layout.rooms room).map fun x => x.hall

/-- ROOM_DEFINE's handling (R52). -/
def handleRoomDefine (room h : Nat) (list : List Nat) (plate : Nat) : Handler := fun s =>
  let segments := sortNumbers list
  if !(within Config.rooms room && within Config.halls h && isSegmentList list && plate != 0) then refused .outOfRange s
  else if !isListed s.layout.halls h then refused .notFound s
  else if !(segments.all fun g => (hallSegments s h).contains g) then refused .outOfRange s
  else if !connected s (fun _ _ => true) segments then refused .outOfRange s
  else if s.layout.rooms.any fun e => e.1 != room && e.2.segments == segments then refused .exists s
  else if roomDefined s room && hasEntries s room then refused .inUse s
  else if !isReady s plate then refused .notFound s
  else
    let record : Room := ⟨h, segments, plate⟩
    let referenced := moveLayoutRef (roomPlate s room) plate s
    let placed := { referenced with
      layout := { referenced.layout with rooms := assign referenced.layout.rooms room record } }
    let concerned := insertNumber ((hallOfRoom s room).toList) h
    (formationEvent concerned true (setTiming room defaultTiming placed), ok (roomBytes room record defaultTiming))

/-- ROOM_DEFINE (R52). -/
def execRoomDefine (tag : Byte) (room h : Nat) (list : List Nat) (plate : Nat) (s : State) :
    Host.Outcome State Fault Refusal :=
  request tag (handleRoomDefine room h list plate) s

/-- ROOM_REMOVE's handling (R53). -/
def handleRoomRemove (room : Nat) : Handler := fun s =>
  if !within Config.rooms room then refused .outOfRange s
  else
    match lookup s.layout.rooms room with
    | none => refused .notFound s
    | some x =>
      if hasEntries s room then refused .inUse s
      else
        let released := moveLayoutRef x.plate 0 s
        let removed := { released with layout := { released.layout with rooms := erase released.layout.rooms room } }
        (formationEvent [x.hall] true (dropTiming room removed), ok [])

/-- ROOM_REMOVE (R53). -/
def execRoomRemove (tag : Byte) (room : Nat) (s : State) : Host.Outcome State Fault Refusal :=
  request tag (handleRoomRemove room) s

/-! ### Settle time and reading (R58, R63) -/

/-- LAYOUT_SETTLE's handling (R58). -/
def handleLayoutSettle (t : Nat) : Handler := fun s =>
  if within 60 t then ({ s with layout := { s.layout with settle := t } }, ok (u8 t)) else refused .outOfRange s

/-- LAYOUT_SETTLE (R58). -/
def execLayoutSettle (tag : Byte) (t : Nat) (s : State) : Host.Outcome State Fault Refusal :=
  request tag (handleLayoutSettle t) s

/-- A wall's record in LAYOUT_READ, the hold as its candidate and the whole seconds remaining, rounded up (R63). That its
source is coded SENSED 1, MANUAL 2, as WALL_DEFINE's request codes it, and not by place from 0, is the model's choice
(notes/assumptions/20.md). -/
def wallReport (now w : Nat) (x : Wall) : List Byte :=
  let source : List Byte := match x.source with
    | .sensed c o raw hold =>
      u8 1 ++ u8 c ++ u8 o ++ u8 (rawStateCode raw) ++
        (match hold with
          | none => [0, 0]
          | some k => u8 (if k.opened then 1 else 2) ++ u8 (secondsUp (k.ends - now)))
    | .manual => [2, 0, 0, 0, 0, 0]
  u8 w ++ u8 x.segA ++ u8 x.segB ++ source ++ u8 (wallStateCode x.settled)

/-- A room definition's record in LAYOUT_READ (R63). -/
def roomReport (s : State) (room : Nat) (x : Room) : List Byte :=
  u8 room ++ listBytes u8 x.segments ++ u8 x.plate ++ timingBytes (timingOf s room) ++ flag (isFormed s room)

/-- A component in LAYOUT_READ (R63). -/
def componentReport (c : Component) : List Byte := listBytes u8 c.segments ++ u8 (c.room.getD 0)

/-- A hall's report (R63). -/
def hallReport (s : State) (h : Nat) (x : Hall) : List Byte :=
  listBytes u8 x.segments ++ u8 x.plate ++ flag x.reconfiguring ++
    listBytes (fun e : Nat × Wall => wallReport s.now e.1 e.2) (s.layout.walls.filter fun e => e.2.hall == h) ++
    listBytes (fun e : Nat × Room => roomReport s e.1 e.2) (s.layout.rooms.filter fun e => e.2.hall == h) ++
    listBytes componentReport x.formation

/-- The report of hall 0: the settle time and every hall number's segment set (R63). -/
def layoutReport (s : State) : List Byte :=
  u8 s.layout.settle ++ (upTo Config.halls).flatMap fun h =>
    flag (isListed s.layout.halls h) ++ listBytes u8 (hallSegments s h)

/-- LAYOUT_READ's handling (R63). -/
def handleLayoutRead (h : Nat) : Handler := fun s =>
  if Config.halls < h then refused .outOfRange s
  else if h = 0 then (s, ok (layoutReport s))
  else
    match lookup s.layout.halls h with
    | none => refused .notFound s
    | some x => (s, ok (hallReport s h x))

/-- LAYOUT_READ (R63). -/
def execLayoutRead (tag : Byte) (h : Nat) (s : State) : Host.Outcome State Fault Refusal :=
  request tag (handleLayoutRead h) s

end Sys2Proof.Machine
end

