-- ==== Sys2Proof/Machine/SenseCommands.lean ====
section
/-! DEFINITION. The Sense Unit's commands: levels, filters, edges, doors-closed states, configuration, acknowledgement,
reading (R65–R76). -/

namespace Sys2Proof.Machine

/-! ### The filter (R67) -/

/-- A change of input level judged against the filtered level (R67). -/
def filterInput (f : Filter) (level : Level) (now : Nat) : Filter :=
  if f.level = some level then ⟨f.level, none⟩ else ⟨f.level, some (level, now + Config.filterTime)⟩

/-- A line's mode after a change of its input level (R66, R67). -/
def modeAfterLevel (m : LineMode) (level : Level) (now : Nat) : LineMode :=
  match m with
  | .off => .off
  | .contact f al es h act pf => .contact (filterInput f level now) al es h act pf
  | .wall f w => .wall (filterInput f level now) w
  | .lamp h lit => .lamp h lit

/-- The input level of a line changes (R66, R67). -/
def changeLevel (l : Nat) (level : Level) (s : State) : State :=
  let x := lineOf s l
  if x.input = level then s else setLine l ⟨level, modeAfterLevel x.mode level s.now⟩ s

/-- LINE_LEVEL_CHANGE (R66, R67). -/
def execLineLevelChange (l : Nat) (level : Level) (s : State) : Host.Outcome State Fault Refusal :=
  if within Config.lines l then event (changeLevel l level) s else .fault (.noSuchLine l)

/-! ### Doors-closed states (R71) -/

/-- A line is a CONTACT line bound to a hall. -/
def isBoundTo (h : Nat) (x : Line) : Bool :=
  match x.mode with
  | .contact _ _ _ g _ _ => g == h && h != 0
  | .off => false
  | .wall _ _ => false
  | .lamp _ _ => false

/-- A line is an ACTIVE CONTACT line bound to a hall. -/
def isActiveFor (h : Nat) (x : Line) : Bool :=
  match x.mode with
  | .contact _ _ _ g act _ => g == h && h != 0 && act
  | .off => false
  | .wall _ _ => false
  | .lamp _ _ => false

/-- A hall's doors-closed state as the lines stand (R71). -/
def doorsNow (s : State) (h : Nat) : Bool := s.sense.lines.any fun e => isActiveFor h e.2

/-- A hall's doors-closed state is brought up to date; a change is handed to the Resolver (R71). -/
def syncDoors (h : Nat) (s : State) : State :=
  let v := doorsNow s h
  if s.sense.doors.contains h = v then s
  else doorsChange h v { s with sense := { s.sense with doors := putNumber s.sense.doors h v } }

/-! ### Filter expiry (R67–R69, R72) -/

/-- An edge matches the edge select (R69). -/
def edgeMatches (es : EdgeSelect) (rising : Bool) : Bool :=
  match es with
  | .rise => rising
  | .fall => !rising
  | .both => true

/-- A CONTACT line's filtered level takes the candidate's level (R68, R69, R71). -/
def contactFiltered (l : Nat) (input : Level) (f : Filter) (al : Level) (es : EdgeSelect) (h : Nat) (pf : Bool)
    (level : Level) (s : State) : State :=
  let act := level == al
  let edge := f.level.isSome && f.level != some level
  let sets := edge && edgeMatches es act && !pf
  let taken := setLine l ⟨input, .contact ⟨some level, none⟩ al es h act (pf || sets)⟩ s
  syncDoors h (if sets then produce (.senseEdge l act) taken else taken)

/-- A WALL line's filtered level takes the candidate's level and reaches the Layout Unit (R72). -/
def wallFiltered (l : Nat) (input : Level) (w : Nat) (level : Level) (s : State) : State :=
  takeWallLevel w (setLine l ⟨input, .wall ⟨some level, none⟩ w⟩ s)

/-- A line's candidate runs out (R67). -/
def endFilter (l : Nat) (s : State) : State :=
  let x := lineOf s l
  match x.mode with
  | .contact f al es h _ pf =>
    match f.candidate with
    | some (level, ends) => contactFiltered l x.input f al es h pf level (reachInstant ends s)
    | none => s
  | .wall f w =>
    match f.candidate with
    | some (level, ends) => wallFiltered l x.input w level (reachInstant ends s)
    | none => s
  | .off => s
  | .lamp _ _ => s

/-- FILTER_EXPIRY (R67). -/
def execFilterExpiry (l : Nat) (s : State) : Host.Outcome State Fault Refusal :=
  if within Config.lines l then event (endFilter l) s else .fault (.noSuchLine l)

/-! ### Configuration (R74, R75) -/

/-- The mode a SENSE_CONFIG requests, with its options. -/
inductive ModeRequest
  | off
  | contact (activeLevel : Level) (edge : EdgeSelect) (hall : Nat)
  | wall
  | lamp (hall : Nat)
deriving DecidableEq, Repr

/-- The edge select of a code. -/
def edgeOf (code : Nat) : Option EdgeSelect :=
  if code = 1 then some .rise else if code = 2 then some .fall else if code = 3 then some .both else none

/-- The level of a code. -/
def levelOf (code : Nat) : Option Level := if code = 0 then some .low else if code = 1 then some .high else none

/-- The mode request of a SENSE_CONFIG's bytes; none if one lies outside its values (R74, check 1). -/
def modeRequest (mode o1 o2 o3 : Nat) : Option ModeRequest :=
  if mode = 0 then some .off
  else if mode = 1 then
    match levelOf o1, edgeOf o2 with
    | some al, some es => if o3 ≤ Config.halls then some (.contact al es o3) else none
    | _, _ => none
  else if mode = 2 then some .wall
  else if mode = 3 then (if within Config.halls o1 then some (.lamp o1) else none)
  else none

/-- A line is in WALL mode. -/
def inWallMode (x : Line) : Bool :=
  match x.mode with
  | .wall _ _ => true
  | .off => false
  | .contact _ _ _ _ _ _ => false
  | .lamp _ _ => false

/-- Another CONTACT line is bound to the hall (R74, check 4). -/
def boundElsewhere (s : State) (l h : Nat) : Bool := s.sense.lines.any fun e => e.1 != l && isBoundTo h e.2

/-- The hall a line is bound to, 0 for none. -/
def boundHall (x : Line) : Nat :=
  match x.mode with
  | .contact _ _ _ h _ _ => h
  | .off => 0
  | .wall _ _ => 0
  | .lamp _ _ => 0

/-- The filter a line carries into CONTACT mode: its own if it stays there, a new one otherwise (R68, R75). -/
def contactFilter (x : Line) (now : Nat) : Filter :=
  match x.mode with
  | .contact f _ _ _ _ _ => f
  | .off => ⟨none, some (x.input, now + Config.filterTime)⟩
  | .wall _ _ => ⟨none, some (x.input, now + Config.filterTime)⟩
  | .lamp _ _ => ⟨none, some (x.input, now + Config.filterTime)⟩

/-- A line as a SENSE_CONFIG leaves it (R75). -/
def configuredLine (s : State) (x : Line) (r : ModeRequest) : Line :=
  match r with
  | .off => ⟨x.input, .off⟩
  | .contact al es h =>
    let f := contactFilter x s.now
    ⟨x.input, .contact f al es h (f.level == some al) false⟩
  | .wall => x
  | .lamp h => ⟨x.input, .lamp h (lampDrive s.sense h)⟩

/-- A hall's doors-closed state brought up to date, 0 standing for no hall. -/
def syncBound (h : Nat) (s : State) : State := if h = 0 then s else syncDoors h s

/-- A line's record in the form of SENSE_READ (R76). The active state is coded as SENSE_EDGE codes it, INACTIVE 0 and ACTIVE 1
(notes/assumptions/20.md). -/
def lineBytesOf (x : Line) : List Byte :=
  match x.mode with
  | .off => u8 0
  | .contact f al es h act pf =>
    u8 1 ++ u8 (levelCode al) ++ u8 (edgeCode es) ++ u8 h ++ u8 (filteredCode f.level) ++ flag act ++ flag pf
  | .wall f w => u8 2 ++ u8 w ++ u8 (filteredCode f.level)
  | .lamp h lit => u8 3 ++ u8 h ++ u8 (if lit then 0 else 1)

/-- SENSE_CONFIG carried out (R75). Where it moves a binding, the hall that loses it is handed before the hall that gains it:
the model's choice, R71 leaving either order (notes/assumptions/14.md). -/
def configure (l : Nat) (r : ModeRequest) (s : State) : State :=
  let x := lineOf s l
  let new := configuredLine s x r
  syncBound (boundHall new) (syncBound (boundHall x) (setLine l new s))

/-- SENSE_CONFIG's handling (R74). -/
def handleSenseConfig (l mode o1 o2 o3 : Nat) : Handler := fun s =>
  match modeRequest mode o1 o2 o3 with
  | none => refused .outOfRange s
  | some r =>
    if !within Config.lines l then refused .outOfRange s
    else if inWallMode (lineOf s l) then refused .inUse s
    else
      match r with
      | .wall => refused .wrongMode s
      | .off => (configure l r s, ok (lineBytesOf (configuredLine s (lineOf s l) r)))
      | .contact _ _ h =>
        if boundElsewhere s l h then refused .exists s
        else (configure l r s, ok (lineBytesOf (configuredLine s (lineOf s l) r)))
      | .lamp _ => (configure l r s, ok (lineBytesOf (configuredLine s (lineOf s l) r)))

/-- SENSE_CONFIG (R74, R75). -/
def execSenseConfig (tag : Byte) (l mode o1 o2 o3 : Nat) (s : State) : Host.Outcome State Fault Refusal :=
  request tag (handleSenseConfig l mode o1 o2 o3) s

/-! ### Acknowledgement and reading (R70, R76) -/

/-- A CONTACT line with its pending flag set. -/
def isPending (x : Line) : Bool :=
  match x.mode with
  | .contact _ _ _ _ _ pf => pf
  | .off => false
  | .wall _ _ => false
  | .lamp _ _ => false

/-- A line with its pending flag cleared. -/
def clearPending (x : Line) : Line :=
  match x.mode with
  | .contact f al es h act _ => ⟨x.input, .contact f al es h act false⟩
  | .off => x
  | .wall _ _ => x
  | .lamp _ _ => x

/-- SENSE_ACK's handling (R70). -/
def handleSenseAck (ls : List Nat) : Handler := fun s =>
  if !(within 24 ls.length && ls.all (within Config.lines)) then refused .outOfRange s
  else
    let cleared := (upTo Config.lines).filter fun l => ls.contains l && isPending (lineOf s l)
    (cleared.foldl (fun acc l => setLine l (clearPending (lineOf acc l)) acc) s, ok (listBytes u8 cleared))

/-- SENSE_ACK (R70). -/
def execSenseAck (tag : Byte) (ls : List Nat) (s : State) : Host.Outcome State Fault Refusal :=
  request tag (handleSenseAck ls) s

/-- SENSE_READ's handling (R76). -/
def handleSenseRead : Handler := fun s =>
  (s, ok ((upTo Config.lines).flatMap fun l => lineBytesOf (lineOf s l)))

/-- SENSE_READ (R76). -/
def execSenseRead (tag : Byte) (s : State) : Host.Outcome State Fault Refusal := request tag handleSenseRead s

end Sys2Proof.Machine
end

