-- ==== Sys2Proof/Machine/PlateCommands.lean ====
section
/-! DEFINITION. The Plate Store's commands (R78–R93). -/

namespace Sys2Proof.Machine

/-- A plate id (R79). -/
def isPlateId (id : Nat) : Bool := within Config.plates id

/-- A plate is FILLING. -/
def isFillingPlate (p : Plate) : Bool := p.state == .filling

/-! ### Upload (R81–R83) -/

/-- PLATE_OPEN carried out (R81). -/
def openPlate (id size : Nat) (d : Digest) (s : State) : State :=
  let n := pagesFor size
  let taken := setPlate id ⟨.filling, size, takePages s n, 0, d, 0, 0, 0, 0⟩ s
  { taken with plates := { taken.plates with freeCount := taken.plates.freeCount - n } }

/-- PLATE_OPEN's handling (R81). -/
def handlePlateOpen (id size : Nat) (d : Digest) : Handler := fun s =>
  if !(isPlateId id && within Config.plateSize size) then refused .outOfRange s
  else
    match plateAt s id with
    | some p => if p.state = .doomed then refused .busy s else refused .exists s
    | none =>
      if s.plates.freeCount < pagesFor size then refused .full s
      else (openPlate id size d s, ok (u8 id ++ u16 (pagesFor size) ++ u16 (s.plates.freeCount - pagesFor size)))

/-- PLATE_OPEN (R81). -/
def execPlateOpen (tag : Byte) (id size : Nat) (d : Digest) (s : State) : Host.Outcome State Fault Refusal :=
  request tag (handlePlateOpen id size d) s

/-- PLATE_DATA carried out (R82). -/
def writePlate (id : Nat) (p : Plate) (bytes : List Byte) (s : State) : State :=
  let filled := setPlate id { p with received := p.received + bytes.length } s
  { filled with plates := { filled.plates with pool := writeContent p p.received bytes filled.plates.pool } }

/-- PLATE_DATA's handling (R82). -/
def handlePlateData (id offset : Nat) (bytes : List Byte) : Handler := fun s =>
  if !(isPlateId id && decide (offset ≤ 65535) && within Config.chunk bytes.length) then refused .outOfRange s
  else
    match plateAt s id with
    | none => refused .wrongMode s
    | some p =>
      if !isFillingPlate p then refused .wrongMode s
      else if offset ≠ p.received then refused .sequence s
      else if p.size < offset + bytes.length then refused .outOfRange s
      else (writePlate id p bytes s, ok (u8 id ++ u32 (p.received + bytes.length)))

/-- PLATE_DATA (R82). -/
def execPlateData (tag : Byte) (id offset : Nat) (bytes : List Byte) (s : State) : Host.Outcome State Fault Refusal :=
  request tag (handlePlateData id offset bytes) s

/-- PLATE_CLOSE's handling (R83). -/
def handlePlateClose (id : Nat) : Handler := fun s =>
  if !isPlateId id then refused .outOfRange s
  else
    match plateAt s id with
    | none => refused .wrongMode s
    | some p =>
      if !isFillingPlate p then refused .wrongMode s
      else if p.received ≠ p.size then refused .sequence s
      else if digest (content s p) = p.digest then
        (setPlate id { p with state := .ready } s, ok (u8 id ++ digestBytes p.digest))
      else (freePlate id s, refusal .digestMismatch)

/-- PLATE_CLOSE (R83). -/
def execPlateClose (tag : Byte) (id : Nat) (s : State) : Host.Outcome State Fault Refusal :=
  request tag (handlePlateClose id) s

/-! ### Deletion and the watch (R86, R91) -/

/-- A plate's reference count (R79). -/
def references (p : Plate) : Nat := p.timetableRefs + p.layoutRefs + p.settingsRefs

/-- PLATE_DELETE carried out (R86, R87). -/
def deletePlate (id : Nat) (p : Plate) (s : State) : State :=
  match p.state with
  | .filling => freePlate id s
  | .ready =>
    let released := releasePlate id s
    if p.inFlight = 0 then freePlate id released else setPlate id { p with state := .doomed } released
  | .doomed => s

/-- The state code a PLATE_DELETE reports: EMPTY 0, or DOOMED (R86). -/
def deletedCode (p : Plate) : Nat :=
  match p.state with
  | .filling => 0
  | .ready => if p.inFlight = 0 then 0 else plateStateCode .doomed
  | .doomed => plateStateCode .doomed

/-- PLATE_DELETE's handling (R86). -/
def handlePlateDelete (id : Nat) : Handler := fun s =>
  if !isPlateId id then refused .outOfRange s
  else
    match plateAt s id with
    | none => refused .notFound s
    | some p =>
      if references p ≠ 0 then refused .inUse s
      else
        let deleted := deletePlate id p s
        (deleted, ok (u8 (deletedCode p) ++ u16 deleted.plates.freeCount))

/-- PLATE_DELETE (R86). -/
def execPlateDelete (tag : Byte) (id : Nat) (s : State) : Host.Outcome State Fault Refusal :=
  request tag (handlePlateDelete id) s

/-- The pool watch set. -/
def setWatch (w : Option Nat) (s : State) : State := { s with plates := { s.plates with watch := w } }

/-- POOL_WATCH's handling (R91). -/
def handlePoolWatch (n : Nat) : Handler := fun s =>
  let free := s.plates.freeCount
  if !within Config.pages n then refused .outOfRange s
  else if n ≤ free then (produce (.poolAvailable free) (setWatch none s), ok (u16 free ++ u16 0))
  else (setWatch (some n) s, ok (u16 free ++ u16 n))

/-- POOL_WATCH (R91). -/
def execPoolWatch (tag : Byte) (n : Nat) (s : State) : Host.Outcome State Fault Refusal :=
  request tag (handlePoolWatch n) s

/-! ### Settings and reading (R92, R93) -/

/-- The settings record's seven bytes. -/
def settingsBytes (x : Settings) : List Byte := (settingsList x).flatMap u8

/-- The settings record replaced, with its references (R92). -/
def replaceSettings (x : Settings) (s : State) : State :=
  let moved := mapPlates (fun id p =>
    let refs := changedRefs p.settingsRefs (settingsRefsOf s.plates.settings id) (settingsRefsOf x id)
    { p with settingsRefs := refs }) s
  { moved with plates := { moved.plates with settings := x } }

/-- SETTINGS_PLATES's handling (R92). -/
def handleSettingsPlates (x : Settings) : Handler := fun s =>
  if !((settingsList x).all (plateAllowed s)) then refused .notFound s
  else (settingsNotice (replaceSettings x s), ok (settingsBytes x))

/-- SETTINGS_PLATES (R92). -/
def execSettingsPlates (tag : Byte) (x : Settings) (s : State) : Host.Outcome State Fault Refusal :=
  request tag (handleSettingsPlates x) s

/-- A plate's record in PLATE_LIST (R93). -/
def plateBytes (id : Nat) (p : Plate) : List Byte :=
  u8 id ++ u8 (plateStateCode p.state) ++ u32 p.size ++ u16 p.pages.length ++ u32 p.received ++ digestBytes p.digest ++
    u16 p.timetableRefs ++ u16 p.layoutRefs ++ u16 p.settingsRefs ++ u8 p.inFlight

/-- PLATE_LIST's handling (R93). -/
def handlePlateList (start count : Nat) : Handler := fun s =>
  if !(isPlateId start && within 32 count) then refused .outOfRange s
  else
    let rest := s.plates.plates.filter fun e => start ≤ e.1
    let page := rest.take count
    (s, ok (u16 s.plates.freeCount ++ u16 (s.plates.watch.getD 0) ++ settingsBytes s.plates.settings ++ u8 page.length ++
      flag (decide (count < rest.length)) ++ page.flatMap fun e => plateBytes e.1 e.2))

/-- PLATE_LIST (R93). -/
def execPlateList (tag : Byte) (start count : Nat) (s : State) : Host.Outcome State Fault Refusal :=
  request tag (handlePlateList start count) s

end Sys2Proof.Machine
end

