-- ==== Sys2Proof/Machine/SignCommands.lean ====
section
/-! DEFINITION. The Resolver's and the Dispatcher's commands: signs, views, credit accrual, overdue deadlines (R96–R99, R122,
R128, R138, R140). -/

namespace Sys2Proof.Machine

/-! ### SIGN_DEFINE (R97) -/

/-- A trunk and a position (R96). -/
def isPlace (t p : Nat) : Bool := within Config.trunks t && within Config.positions p

/-- The role a SIGN_DEFINE gives; none if a role field lies outside its range (R97, check 1). -/
def roleOf (f : SignForm) : Option SignRole :=
  match f with
  | .door g key => if isSegment g && decide (key ≤ 1) then some (.door g (key == 1)) else none
  | .corridor routes =>
    if within 8 routes.length && (routes.all fun r => isSegment r.1 && decide (r.2 ≤ 7)) &&
      allDistinct (routes.map fun r => r.1) then some (.corridor routes) else none
  | .other _ _ _ => none

/-- The segments a role names. -/
def roleSegments (r : SignRole) : List Nat :=
  match r with
  | .door g _ => [g]
  | .corridor routes => routes.map fun x => x.1

/-- A defined segment (R44). -/
def segmentDefined (s : State) (g : Nat) : Bool := (hallOfSegment s g).isSome

/-- A new sign's record, resolved, and its panel record created; a new sign hands its notice whatever its composition
(R97, R126). -/
def defineNewSign (k : Nat) (role : SignRole) (s : State) : State :=
  let fresh : Sign := ⟨role, none, none, .empty .blank, []⟩
  let defined := createPanel k (setSign k fresh s)
  desiredChange k (primaryChanged defined fresh) (setSign k (resolvedSign defined fresh) defined)

/-- A replaced sign: role and role fields given, view NORMAL, primary reference kept, then resolved (R97). -/
def redefineSign (k : Nat) (role : SignRole) (old : Sign) (s : State) : State :=
  resolveSign k (setSign k { old with role := role, view := none } s)

/-- SIGN_DEFINE carried out (R97). -/
def defineSign (k : Nat) (role : SignRole) (s : State) : State :=
  match signAt s k with
  | none => defineNewSign k role s
  | some old => redefineSign k role old s

/-! ### Sign records in replies (R97, R99, R128) -/

/-- A role's bytes: role, segment, key enabled, routes (notes/assumptions/19.md). -/
def roleBytes (r : SignRole) : List Byte :=
  match r with
  | .door g key => u8 1 ++ u8 g ++ flag key ++ u8 0
  | .corridor routes => u8 2 ++ u8 0 ++ u8 0 ++ listBytes (fun x : Nat × Nat => u8 x.1 ++ u8 x.2) routes

/-- A primary reference's bytes: kind (absent 0, SESSION 1, TOMBSTONE 2), session, room definition, creation number. -/
def primaryBytes (r : Option PrimaryRef) : List Byte :=
  match r with
  | none => u8 0 ++ u16 0 ++ u8 0 ++ u32 0
  | some (.session n) => u8 1 ++ u16 n ++ u8 0 ++ u32 0
  | some (.tombstone room c) => u8 2 ++ u16 0 ++ u8 room ++ u32 c

/-- The sign record with its desired composition (R96, R97, R99). -/
def signBytes (now t p : Nat) (g : Sign) : List Byte :=
  let view : List Byte := match g.view with
    | none => u8 0 ++ u8 0
    | some ends => u8 1 ++ u8 (secondsUp (ends - now))
  u8 t ++ u8 p ++ roleBytes g.role ++ view ++ primaryBytes g.primary ++ encodeComposition g.desired

/-- Link state codes. -/
def linkStateCode : LinkState → Nat
  | .absent => 0 | .present => 1 | .blocked => 2

/-- Content state codes. -/
def contentStateCode : ContentState → Nat
  | .committing => 0 | .unknown => 1 | .inSync => 2 | .stale => 3

/-- Query due codes. -/
def queryDueCode : QueryDue → Nat
  | .none => 0 | .adopt => 1 | .overdue => 2

/-- Queue class codes. -/
def queueClassCode (q : Option QueuePlace) : Nat :=
  match q with
  | none => 0
  | some x => if x.urgent then 1 else 2

/-- A digest that may be none, an absent one being reported as 0 (R128, spec/10 Field widths). -/
def optionalDigest (c : Option Composition) : List Byte :=
  match c with
  | none => u16 0
  | some x => digestBytes (compositionDigest x)

/-- A slot's bytes: state, plate id, blocks loaded, age of the stamp. -/
def slotBytes (now : Nat) (x : Slot) : List Byte :=
  let held : List Byte := match x.state with
    | .free => u8 0 ++ u8 0 ++ u16 0
    | .filling id n => u8 1 ++ u8 id ++ u16 n
    | .loaded id n => u8 2 ++ u8 id ++ u16 n
  held ++ u32 (secondsDown (now - x.stamp))

/-- A record's place in its trunk's queue, from 1 at the head, 0 when not queued (R128). -/
def queuePlace (s : State) (k : Nat) : Nat :=
  match (queueOf s (keyTrunk k)).findIdx? fun e => e.1 == k with
  | some i => i + 1
  | none => 0

/-- A panel record's bytes in the order of R128. That the failure count and the place in the queue take one byte each is the
model's choice: the Field widths of spec/10 list neither (notes/assumptions/19.md). -/
def panelBytes (s : State) (k : Nat) (p : Panel) (desired : Composition) : List Byte :=
  let elapsed := match p.awaiting with
    | some w => secondsDown (s.now - w.showTime)
    | none => 0
  u8 (linkStateCode p.link) ++ u8 (contentStateCode (contentState p desired)) ++ optionalDigest p.shown ++
    optionalDigest (p.awaiting.map fun w => w.comp) ++ u32 elapsed ++ u8 (queryDueCode p.query) ++ i8 p.credit ++
    u8 p.failures ++ p.mirror.flatMap (slotBytes s.now) ++ u8 (queueClassCode p.queue) ++ u8 (queuePlace s k)

/-- A sign's report: the sign record, the digest of its desired composition, the panel record (R99). -/
def signReport (s : State) (k : Nat) (g : Sign) : List Byte :=
  signBytes s.now (keyTrunk k) (keyPosition k) g ++ digestBytes (compositionDigest g.desired) ++
    match panelAt s k with
    | some p => panelBytes s k p g.desired
    | none => []

/-- The role code of a position in the report of a trunk; NONE is 0 (R99). -/
def roleAt (s : State) (t p : Nat) : Nat :=
  match signAt s (signKey t p) with
  | none => 0
  | some g =>
    match g.role with
    | .door _ _ => 1
    | .corridor _ => 2

/-- SIGN_DEFINE's handling (R97). -/
def handleSignDefine (t p : Nat) (f : SignForm) : Handler := fun s =>
  match roleOf f with
  | none => refused .outOfRange s
  | some role =>
    if !isPlace t p then refused .outOfRange s
    else if !((roleSegments role).all (segmentDefined s)) then refused .notFound s
    else
      let defined := defineSign (signKey t p) role s
      (defined, ok (match signAt defined (signKey t p) with
        | some g => signBytes defined.now t p g
        | none => []))

/-- SIGN_DEFINE (R97). -/
def execSignDefine (tag : Byte) (t p : Nat) (f : SignForm) (s : State) : Host.Outcome State Fault Refusal :=
  request tag (handleSignDefine t p f) s

/-! ### SIGN_REMOVE and SIGN_READ (R98, R99) -/

/-- SIGN_REMOVE carried out (R98, R152). -/
def removeSign (k : Nat) (s : State) : State :=
  forgetPanel k { s with resolver := { s.resolver with signs := erase s.resolver.signs k } }

/-- SIGN_REMOVE's handling (R98). -/
def handleSignRemove (t p : Nat) : Handler := fun s =>
  if !isPlace t p then refused .outOfRange s
  else if (signAt s (signKey t p)).isNone then refused .notFound s
  else (removeSign (signKey t p) s, ok [])

/-- SIGN_REMOVE (R98). -/
def execSignRemove (tag : Byte) (t p : Nat) (s : State) : Host.Outcome State Fault Refusal :=
  request tag (handleSignRemove t p) s

/-- SIGN_READ's handling (R99). -/
def handleSignRead (t p : Nat) : Handler := fun s =>
  if !(within Config.trunks t && decide (p ≤ Config.positions)) then refused .outOfRange s
  else if p = 0 then (s, ok ((upTo Config.positions).flatMap fun q => u8 (roleAt s t q)))
  else
    match signAt s (signKey t p) with
    | none => refused .notFound s
    | some g => (s, ok (signReport s (signKey t p) g))

/-- SIGN_READ (R99). -/
def execSignRead (tag : Byte) (t p : Nat) (s : State) : Host.Outcome State Fault Refusal :=
  request tag (handleSignRead t p) s

/-! ### Timers of signs and panels (R122, R138, R140) -/

/-- A running view expiry of a sign runs out (R122). -/
def expireView (k : Nat) (s : State) : State :=
  match (signAt s k).bind fun g => g.view with
  | some ends => endView k (reachInstant ends s)
  | none => s

/-- VIEW_EXPIRY (R122). -/
def execViewExpiry (t p : Nat) (s : State) : Host.Outcome State Fault Refusal :=
  positionEvent t p (expireView (signKey t p)) s

/-- A record's credit at an accrual instant (R138). -/
def accrue (p : Panel) : Panel := { p with credit := min 8 (p.credit + 1) }

/-- The next accrual instant: every credit rises, and idle trunks are told (R132, R138). -/
def accrueAll (s : State) : State :=
  let reached := reachInstant s.nextAccrual { s with nextAccrual := s.nextAccrual + Config.accrualTime }
  let panels := mapTable (fun _ p => accrue p) reached.dispatcher.panels
  (upTo Config.trunks).foldl (fun acc t => if (panelsOn reached t).isEmpty then acc else wakeTrunk t acc)
    { reached with dispatcher := { reached.dispatcher with panels := panels } }

/-- CREDIT_ACCRUAL (R138). -/
def execCreditAccrual (s : State) : Host.Outcome State Fault Refusal := event accrueAll s

/-- A pending composition's deadline expires (R140). -/
def expireOverdue (k : Nat) (s : State) : State :=
  match panelAt s k with
  | none => s
  | some p =>
    match p.awaiting with
    | none => s
    | some w =>
      match w.deadline with
      | none => s
      | some ends =>
        let late := setPanel k { p with awaiting := some { w with deadline := none }, query := .overdue }
          (reachInstant ends s)
        wakeTrunk (keyTrunk k) (setLive (panelObject k) .overdue true late)

/-- OVERDUE_DEADLINE_EXPIRY (R140). -/
def execOverdueDeadlineExpiry (t p : Nat) (s : State) : Host.Outcome State Fault Refusal :=
  positionEvent t p (expireOverdue (signKey t p)) s

end Sys2Proof.Machine
end

