-- ==== Sys2Proof/Machine/TrunkCommands.lean ====
section
/-! DEFINITION. The Trunk Controllers' commands (R155–R178). Every event that ends an exchange carries the trunk's four
attention lines as they stand at that moment (notes/assumptions/10.md). -/

namespace Sys2Proof.Machine

/-! ### Requests (R156–R160) -/

/-- The trunk and its state, as the replies report them. -/
def trunkBytes (t : Nat) (x : Trunk) : List Byte := u8 t ++ u8 (trunkStateCode x.state)

/-- TRUNK_START's handling (R156). -/
def handleTrunkStart (t probing : Nat) : Handler := fun s =>
  if !(within Config.trunks t && decide (probing ≤ 1)) then refused .outOfRange s
  else if (trunkOf s t).state ≠ .off then refused .busy s
  else
    let started := startTrunk t (probing == 1) s
    (started, ok (trunkBytes t (trunkOf started t)))

/-- TRUNK_START (R156). -/
def execTrunkStart (tag : Byte) (t probing : Nat) (s : State) : Host.Outcome State Fault Refusal :=
  request tag (handleTrunkStart t probing) s

/-- TRUNK_STOP's handling (R157). -/
def handleTrunkStop (t : Nat) : Handler := fun s =>
  let x := trunkOf s t
  if !within Config.trunks t then refused .outOfRange s
  else if x.state = .off then (s, ok (trunkBytes t x ++ flag false))
  else if x.exchange.isNone then
    let stopped := takeStop t s
    (stopped, ok (trunkBytes t (trunkOf stopped t) ++ flag false))
  else (setTrunk t { x with stopPending := true, rewalkPending := false } s, ok (trunkBytes t x ++ flag true))

/-- TRUNK_STOP (R157). -/
def execTrunkStop (tag : Byte) (t : Nat) (s : State) : Host.Outcome State Fault Refusal :=
  request tag (handleTrunkStop t) s

/-- TRUNK_COUNT's handling (R159). -/
def handleTrunkCount (t : Nat) : Handler := fun s =>
  let x := trunkOf s t
  if !within Config.trunks t then refused .outOfRange s
  else if x.stopPending || x.state == .counting then refused .busy s
  else if x.state ≠ .running then refused .wrongMode s
  else
    let asked := if x.exchange.isNone then beginWalk t s else setTrunk t { x with rewalkPending := true } s
    (asked, ok (trunkBytes t (trunkOf asked t)))

/-- TRUNK_COUNT (R159). -/
def execTrunkCount (tag : Byte) (t : Nat) (s : State) : Host.Outcome State Fault Refusal :=
  request tag (handleTrunkCount t) s

/-- TRUNK_CHECK's handling; an idle trunk decides at the end of the request (R160, R177). -/
def handleTrunkCheck (t : Nat) : Handler := fun s =>
  let x := trunkOf s t
  if !within Config.trunks t then refused .outOfRange s
  else if x.state = .off then refused .wrongMode s
  else if x.stopPending then refused .busy s
  else (setTrunk t { x with probeDue := true, wake := true } s, ok (trunkBytes t x))

/-- TRUNK_CHECK (R160). -/
def execTrunkCheck (tag : Byte) (t : Nat) (s : State) : Host.Outcome State Fault Refusal :=
  request tag (handleTrunkCheck t) s

/-! ### Ends of exchanges (R158, R159, R161–R176) -/

/-- A pending stop takes effect as the exchange in flight ends, at once if there is none (R158). -/
def stopEnds (t : Nat) (e : ExchangeEnd) (lines : Attention) (s : State) : State :=
  let seen := seeLines t lines s
  let x := trunkOf s t
  if !x.stopPending then s
  else if x.exchange.isNone then takeStop t seen
  else exchangeEnds t e lines seen

/-- STOP_TAKES_EFFECT (R158; notes/assumptions/12.md). -/
def execStopTakesEffect (t : Nat) (e : ExchangeEnd) (lines : Attention) (s : State) :
    Host.Outcome State Fault Refusal :=
  trunkEvent t (stopEnds t e lines) s

/-- A pending re-walk begins as the exchange in flight ends, at once if there is none (R159). -/
def rewalkEnds (t : Nat) (e : ExchangeEnd) (lines : Attention) (s : State) : State :=
  let seen := seeLines t lines s
  let x := trunkOf s t
  if !x.rewalkPending then s
  else if x.exchange.isNone then beginWalk t seen
  else exchangeEnds t e lines seen

/-- REWALK_BEGIN (R159; notes/assumptions/12.md). -/
def execRewalkBegin (t : Nat) (e : ExchangeEnd) (lines : Attention) (s : State) : Host.Outcome State Fault Refusal :=
  trunkEvent t (rewalkEnds t e lines) s

/-- COUNT_REPLY (R162–R164). -/
def execCountReply (t : Nat) (frame : List Byte) (lines : Attention) (s : State) : Host.Outcome State Fault Refusal :=
  trunkEvent t (fun x => frameArrives t frame lines (seeLines t lines x)) s

/-- QUERY_REPLY (R165). -/
def execQueryReply (t : Nat) (frame : List Byte) (lines : Attention) (s : State) : Host.Outcome State Fault Refusal :=
  trunkEvent t (fun x => frameArrives t frame lines (seeLines t lines x)) s

/-- LOAD_ACK (R168, R169). -/
def execLoadAck (t : Nat) (frame : List Byte) (lines : Attention) (s : State) : Host.Outcome State Fault Refusal :=
  trunkEvent t (fun x => frameArrives t frame lines (seeLines t lines x)) s

/-- SHOW_ANSWER (R170). -/
def execShowAnswer (t : Nat) (frame : List Byte) (lines : Attention) (s : State) : Host.Outcome State Fault Refusal :=
  trunkEvent t (fun x => frameArrives t frame lines (seeLines t lines x)) s

/-- CALL_REPLY (R173). -/
def execCallReply (t : Nat) (frame : List Byte) (lines : Attention) (s : State) : Host.Outcome State Fault Refusal :=
  trunkEvent t (fun x => frameArrives t frame lines (seeLines t lines x)) s

/-- TRUNK_REPLY_TIMEOUT (R161). -/
def execTrunkReplyTimeout (t : Nat) (lines : Attention) (s : State) : Host.Outcome State Fault Refusal :=
  trunkEvent t (fun x => replyMissing t (seeLines t lines x)) s

/-- A frame that no exchange awaits is discarded; one that arrives while an exchange awaits a reply is that exchange's
reply (R161; notes/assumptions/13.md). -/
def strayFrame (t : Nat) (frame : List Byte) (s : State) : State :=
  frameArrives t frame (trunkOf s t).attention s

/-- STRAY_TRUNK_FRAME (R161). -/
def execStrayTrunkFrame (t : Nat) (frame : List Byte) (s : State) : Host.Outcome State Fault Refusal :=
  trunkEvent t (strayFrame t frame) s

/-- PROBE_END (R174, R175, R178). -/
def execProbeEnd (t : Nat) (r : ProbeResult) (lines : Attention) (s : State) : Host.Outcome State Fault Refusal :=
  trunkEvent t (fun x => probeEnds t r (seeLines t lines x)) s

/-! ### Attention lines and timers (R166, R171, R175, R177) -/

/-- The lines with one of them active. -/
def raiseLine (a : Attention) (level : Nat) : Attention :=
  if level = 4 then { a with l4 := true }
  else if level = 5 then { a with l5 := true }
  else if level = 6 then { a with l6 := true }
  else { a with l7 := true }

/-- An attention line becomes active; an idle trunk decides again (R171, R177). -/
def lineRises (t level : Nat) (s : State) : State :=
  modifyTrunk t (fun x => { x with attention := raiseLine x.attention level, wake := true }) s

/-- ATTENTION_LINE_RISE (R177). -/
def execAttentionLineRise (t level : Nat) (s : State) : Host.Outcome State Fault Refusal :=
  if decide (4 ≤ level) && decide (level ≤ 7) then trunkEvent t (lineRises t level) s
  else .fault (.noSuchAttentionLine level)

/-- The probe interval expires (R175). -/
def expireProbe (t : Nat) (s : State) : State :=
  match (trunkOf s t).probeInterval with
  | none => s
  | some ends =>
    modifyTrunk t (fun x => { x with probeDue := true, probeInterval := some (ends + Config.probeTime), wake := true })
      (reachInstant ends s)

/-- PROBE_INTERVAL_EXPIRY (R175). -/
def execProbeIntervalExpiry (t : Nat) (s : State) : Host.Outcome State Fault Refusal := trunkEvent t (expireProbe t) s

/-- A position's recovery timer runs out (R166). -/
def expireRecovery (t p : Nat) (s : State) : State :=
  match lookup (trunkOf s t).recovery p with
  | some (.running ends) =>
    modifyTrunk t (fun x => { x with recovery := assign x.recovery p .due, wake := true }) (reachInstant ends s)
  | some .due => s
  | none => s

/-- RECOVERY_TIMER_EXPIRY (R166). -/
def execRecoveryTimerExpiry (t p : Nat) (s : State) : Host.Outcome State Fault Refusal :=
  positionEvent t p (expireRecovery t p) s

end Sys2Proof.Machine
end

