-- ==== Sys2Proof/Machine/HealthCommands.lean ====
section
/-! DEFINITION. The Health Monitor's commands (R182–R198). -/

namespace Sys2Proof.Machine

/-! ### WALL samples (R184, R186) -/

/-- The counts of the 32 walls with one sample added to each. -/
def sampledCounts (s : State) : Table Nat :=
  (upTo Config.walls).foldl (fun acc w => if conflictSample s w then assign acc w (lookupD acc w 0 + 1) else acc)
    s.health.wallWindows.counts

/-- The 32 WALL windows end together and are judged in order of wall number (R184, R186). -/
def judgeWalls (length : Nat) (counts : Table Nat) (s : State) : State :=
  (upTo Config.walls).foldl (fun acc w =>
    applyJudgement (.wall w) .wallConflict (judgeWindow length (lookupD counts w 0)) acc) s

/-- The WALL windows set. -/
def setWallWindows (w : WallWindows) (s : State) : State := { s with health := { s.health with wallWindows := w } }

/-- The next WALL sample is taken (R184). -/
def sampleWalls (s : State) : State :=
  let reached := reachInstant s.nextSample { s with nextSample := s.nextSample + Config.second }
  let w := s.health.wallWindows
  let counts := sampledCounts s
  if w.length ≤ w.taken + 1 then
    judgeWalls w.length counts (setWallWindows ⟨s.health.wallSetting, 0, []⟩ reached)
  else setWallWindows ⟨w.length, w.taken + 1, counts⟩ reached

/-- WALL_SAMPLE (R184). -/
def execWallSample (s : State) : Host.Outcome State Fault Refusal := event sampleWalls s

/-! ### Arming and grace (R190, R191) -/

/-- The grace remaining of a class in whole seconds, rounded up (R190). -/
def graceSeconds (now : Nat) (c : ClassState) : Nat :=
  match c with
  | .grace ends => secondsUp (ends - now)
  | .disarmed => 0
  | .armed => 0

/-- HEALTH_ARM's handling (R190). -/
def handleHealthArm (code : Nat) : Handler := fun s =>
  match classOf code with
  | none => refused .outOfRange s
  | some c =>
    let armed := if classState s c = .disarmed then setClassState c (.grace (s.now + Config.graceTime)) s else s
    (armed, ok (u8 code ++ u8 (classStateCode (classState armed c)) ++ u8 (graceSeconds s.now (classState armed c))))

/-- HEALTH_ARM (R190). -/
def execHealthArm (tag : Byte) (code : Nat) (s : State) : Host.Outcome State Fault Refusal :=
  request tag (handleHealthArm code) s

/-- A class's live flags are promoted in the order of the held list (R191). -/
def promote (c : HealthClass) (s : State) : State :=
  (s.health.live.filter fun k => conditionClass k.condition == c).foldl (fun acc k => setHeld k.object k.condition acc) s

/-- A class's grace runs out (R191). -/
def endGrace (c : HealthClass) (s : State) : State :=
  match classState s c with
  | .grace ends => promote c (setClassState c .armed (reachInstant ends s))
  | .disarmed => s
  | .armed => s

/-- GRACE_END (R191). -/
def execGraceEnd (c : HealthClass) (s : State) : Host.Outcome State Fault Refusal := event (endGrace c) s

/-! ### Acknowledgement, selection, windows (R188, R194, R195) -/

/-- The conditions a mask lists, in the order of their codes; bits without a condition are ignored
(notes/assumptions/28.md). -/
def maskConditions (mask : Nat) : List Condition := allConditions.filter fun c => mask.testBit (conditionCode c - 1)

/-- The mask of a list of conditions. -/
def maskOf (cs : List Condition) : Nat := cs.foldl (fun m c => m + 2 ^ (conditionCode c - 1)) 0

/-- The held flags of a list of conditions of one object cleared, the summary recomputed (R194). -/
def clearHeld (o : HealthObject) (cs : List Condition) (s : State) : State :=
  recomputeSummary
    { s with health := { s.health with held := s.health.held.filter fun k => !(k.object == o && cs.contains k.condition) } }

/-- HEALTH_CLEAR's handling (R194). That its reply sends the two sets of conditions as masks is the model's choice
(notes/assumptions/19.md). -/
def handleHealthClear (kind a b mask : Nat) : Handler := fun s =>
  match objectOf kind a b with
  | none => refused .outOfRange s
  | some o =>
    let listed := maskConditions mask
    if listed.isEmpty || !(listed.all fun c => (conditionsOf o).contains c) then refused .outOfRange s
    else
      let cleared := listed.filter fun c => isHeld s o c && !isLive s o c
      let left := listed.filter fun c => isHeld s o c && isLive s o c
      (clearHeld o cleared s, ok (objectBytes o ++ u16 (maskOf cleared) ++ u16 (maskOf left)))

/-- HEALTH_CLEAR (R194). -/
def execHealthClear (tag : Byte) (kind a b mask : Nat) (s : State) : Host.Outcome State Fault Refusal :=
  request tag (handleHealthClear kind a b mask) s

/-- The selection of the ten kinds as flags (R195). -/
def selectionBytes (h : Health) : List Byte := allConditions.flatMap fun c => flag (!h.deselected.contains c)

/-- A kind's selection set, the summary recomputed (R195). -/
def setSelection (c : Condition) (on : Bool) (s : State) : State :=
  let deselected := allConditions.filter fun x => if x = c then !on else s.health.deselected.contains x
  recomputeSummary { s with health := { s.health with deselected := deselected } }

/-- HEALTH_SELECT's handling (R195). -/
def handleHealthSelect (code value : Nat) : Handler := fun s =>
  match conditionOf code with
  | none => refused .outOfRange s
  | some c =>
    if 1 < value then refused .outOfRange s
    else
      let set := setSelection c (value == 1) s
      (set, ok (selectionBytes set.health))

/-- HEALTH_SELECT (R195). -/
def execHealthSelect (tag : Byte) (code value : Nat) (s : State) : Host.Outcome State Fault Refusal :=
  request tag (handleHealthSelect code value) s

/-- A window length (R186). -/
def isWindow (w : Nat) : Bool := [4, 8, 16, 32].contains w

/-- The setting of a window kind, WALL 1 or LINE 2 (R187). -/
def windowSetting (h : Health) (kind : Nat) : Nat := if kind = 1 then h.wallSetting else h.lineSetting

/-- A window setting changed (R187). -/
def setWindow (kind w : Nat) (s : State) : State :=
  if kind = 1 then { s with health := { s.health with wallSetting := w } }
  else { s with health := { s.health with lineSetting := w } }

/-- The class that owns a window kind (R188). -/
def windowClass (kind : Nat) : HealthClass := if kind = 1 then .layout else .trunk

/-- HEALTH_WINDOW's handling (R188). -/
def handleHealthWindow (kind w : Nat) : Handler := fun s =>
  let now := windowSetting s.health kind
  if !(within 2 kind && isWindow w) then refused .outOfRange s
  else if w < now ∧ classState s (windowClass kind) ≠ .disarmed then (s, adjusted (u8 kind ++ u8 now))
  else (setWindow kind w s, ok (u8 kind ++ u8 w))

/-- HEALTH_WINDOW (R188). -/
def execHealthWindow (tag : Byte) (kind w : Nat) (s : State) : Host.Outcome State Fault Refusal :=
  request tag (handleHealthWindow kind w) s

/-! ### Reading (R197, R198) -/

/-- A class's state and grace remaining. -/
def classBytes (now : Nat) (c : ClassState) : List Byte := u8 (classStateCode c) ++ u8 (graceSeconds now c)

/-- The health header (R197). -/
def healthHeader (s : State) : List Byte :=
  classBytes s.now s.health.panelClass ++ classBytes s.now s.health.trunkClass ++ classBytes s.now s.health.layoutClass ++
    u8 s.health.wallSetting ++ u8 s.health.lineSetting ++ selectionBytes s.health ++ flag s.health.summary ++
    u16 s.health.held.length

/-- The window of a condition record: length, samples taken, count; zeros for a condition without a window. -/
def windowBytes (s : State) (o : HealthObject) (c : Condition) : List Byte :=
  match o, c with
  | .wall w, .wallConflict =>
    u8 s.health.wallWindows.length ++ u8 s.health.wallWindows.taken ++ u8 (lookupD s.health.wallWindows.counts w 0)
  | .trunk t, .lineShort => u8 (lineWindowOf s t).length ++ u8 (lineWindowOf s t).taken ++ u8 (lineWindowOf s t).short
  | .trunk t, .lineOpen => u8 (lineWindowOf s t).length ++ u8 (lineWindowOf s t).taken ++ u8 (lineWindowOf s t).opens
  | _, _ => u8 0 ++ u8 0 ++ u8 0

/-- A condition record's report: live, held, window, latest k (R197; notes/assumptions/19.md). -/
def conditionReport (s : State) (o : HealthObject) (c : Condition) : List Byte :=
  flag (isLive s o c) ++ flag (isHeld s o c) ++ windowBytes s o c ++ u8 (latestK s o c)

/-- An entry of the held list (R198). -/
def heldEntry (s : State) (k : CondKey) : List Byte :=
  objectBytes k.object ++ u8 (conditionCode k.condition) ++ flag (isLive s k.object k.condition) ++
    u8 (latestK s k.object k.condition)

/-- HEALTH_READ in mode OBJECT (R197). -/
def readObject (kind a b : Nat) : Handler := fun s =>
  match objectOf kind a b with
  | none => refused .outOfRange s
  | some o => (s, ok (healthHeader s ++ (conditionsOf o).flatMap (conditionReport s o)))

/-- HEALTH_READ in mode HELD: after the header the entries behind their count, then MORE, in the order of R198
(notes/assumptions/19.md). -/
def readHeld (skip count : Nat) : Handler := fun s =>
  if !(decide (skip ≤ 655) && within 32 count) then refused .outOfRange s
  else
    let rest := s.health.held.drop skip
    let page := rest.take count
    (s, ok (healthHeader s ++ u8 page.length ++ page.flatMap (heldEntry s) ++
      flag (decide (count < rest.length))))

/-- HEALTH_READ's handling; x, y, z are the three bytes behind the mode (R197, R198, R203). -/
def handleHealthRead (mode x y z : Nat) : Handler :=
  if mode = 1 then readObject x y z
  else if mode = 2 then readHeld (x * 256 + y) z
  else refused .outOfRange

/-- HEALTH_READ (R197, R198). -/
def execHealthRead (tag : Byte) (mode x y z : Nat) (s : State) : Host.Outcome State Fault Refusal :=
  request tag (handleHealthRead mode x y z) s

end Sys2Proof.Machine
end

