-- ==== Sys2Proof/Machine/RestartCommands.lean ====
section
/-! DEFINITION. RESTART with its two scopes (R17, R94, R125, R154, R180, R199). -/

namespace Sys2Proof.Machine

/-- RESTART FULL's handling: the full reset follows the reply (R17). -/
def handleRestartFull : Handler := fun s => (s, ⟨.ok, u8 1, true⟩)

/-- RESTART FULL (R17). -/
def execRestartFull (tag : Byte) (s : State) : Host.Outcome State Fault Refusal := request tag handleRestartFull s

/-- A trunk is started: not OFF, no stop pending (R180). -/
def isStarted (x : Trunk) : Bool := x.state != .off && !x.stopPending

/-- A trunk record abandoned: the values of R179, probing kept (R180). -/
def abandonedTrunk (x : Trunk) : Trunk := { Trunk.reset with probing := x.probing, attention := x.attention }

/-- Every trunk abandons its exchange and goes OFF (R180). -/
def abandonTrunks (s : State) : State :=
  (upTo Config.trunks).foldl (fun acc t => modifyTrunk t abandonedTrunk acc) s

/-- Every panel record takes its initial values (R154). -/
def restartPanels (s : State) : State :=
  { s with dispatcher := { s.dispatcher with panels := mapTable (fun _ _ => Panel.fresh s.now) s.dispatcher.panels } }

/-- A plate is DOOMED. -/
def isDoomed (p : Plate) : Bool := p.state == .doomed

/-- In-flight counts become 0 and DOOMED plates EMPTY; the rise of the free count is judged (R90, R94). -/
def restartPlates (s : State) : State :=
  let doomed := s.plates.plates.filter fun e => isDoomed e.2
  let freed := doomed.foldl (fun n e => n + e.2.pages.length) 0
  let kept := (s.plates.plates.filter fun e => !isDoomed e.2).map fun e => (e.1, { e.2 with inFlight := 0 })
  let emptied : State := { s with plates := { s.plates with plates := kept } }
  if freed = 0 then emptied else raiseFree freed emptied

/-- A condition record of a panel or a trunk. -/
def isPanelOrTrunk (k : CondKey) : Bool :=
  match k.object with
  | .panel _ _ => true
  | .trunk _ => true
  | .wall _ => false
  | .hall _ => false

/-- Panel and trunk flags are cleared and the line windows restarted (R199). -/
def restartHealth (s : State) : State :=
  let fresh : LineWindow := ⟨s.health.lineSetting, 0, 0, 0, 0⟩
  recomputeSummary
    { s with
      health :=
        { s.health with
          live := s.health.live.filter fun k => !isPanelOrTrunk k
          held := s.health.held.filter fun k => !isPanelOrTrunk k
          lineWindows := (upTo Config.trunks).foldl (fun t n => assignD t n fresh LineWindow.reset) s.health.lineWindows } }

/-- Every view becomes NORMAL, every sign is resolved, every defined hall evaluated (R125). -/
def restartResolver (s : State) : State :=
  resolveAll { s with resolver := { s.resolver with signs := mapTable (fun _ g => { g with view := none }) s.resolver.signs } }

/-- The trunks that had been started start again with their probing (R180). -/
def restartTrunks (started : List Nat) (s : State) : State :=
  started.foldl (fun acc t => startTrunk t (trunkOf acc t).probing acc) s

/-- The partial restart (R17; the order is notes/assumptions/14.md). -/
def restartSigns (s : State) : State :=
  let started := (upTo Config.trunks).filter fun t => isStarted (trunkOf s t)
  restartTrunks started (restartResolver (restartHealth (restartPlates (restartPanels (abandonTrunks s)))))

/-- RESTART SIGNS's handling (R17). -/
def handleRestartSigns : Handler := fun s => (restartSigns s, ok (u8 2))

/-- RESTART SIGNS (R17). -/
def execRestartSigns (tag : Byte) (s : State) : Host.Outcome State Fault Refusal := request tag handleRestartSigns s

end Sys2Proof.Machine
end

