-- ==== Sys2Proof/Machine/Requests.lean ====
section
/-! DEFINITION. TAKE_REQUEST: screening of a queued frame and its hand-over to the owner's handling (R8, R203). -/

namespace Sys2Proof.Machine

/-! ### Reading payloads -/

/-- A refusal at screening: the payload's length is not the one its layout makes (R8, R203). -/
def badLength : Handler := refused .badLength

/-- A payload without fields. -/
def noFields (h : Handler) (payload : List Byte) : Handler :=
  match payload with
  | [] => h
  | _ :: _ => badLength

/-- A payload of one byte. -/
def oneByte (h : Nat → Handler) (payload : List Byte) : Handler :=
  match payload with
  | [a] => h a.toNat
  | _ => badLength

/-- A payload of two bytes. -/
def twoBytes (h : Nat → Nat → Handler) (payload : List Byte) : Handler :=
  match payload with
  | [a, b] => h a.toNat b.toNat
  | _ => badLength

/-- Byte values as numbers. -/
def toNats (bs : List Byte) : List Nat := bs.map BitVec.toNat

/-- Pairs of a route list. -/
def routePairs : List Byte → List (Nat × Nat)
  | a :: b :: rest => (a.toNat, b.toNat) :: routePairs rest
  | _ => []

/-- A field present when its bit of the mask is set (spec/10 Field widths). -/
def presentIf (mask : Byte) (bit value : Nat) : Option Nat := if mask.getLsbD bit then some value else none

/-- One operation of TT_APPLY and the bytes behind it (spec/10 TT_APPLY operations); none where the payload ends within it
or the code is not 1–6. -/
def readOp (bs : List Byte) : Option (TtOp × List Byte) :=
  match bs with
  | 1 :: n1 :: n0 :: r :: s3 :: s2 :: s1 :: s0 :: e3 :: e2 :: e1 :: e0 :: t :: k :: p :: rest =>
    some (.add (nat16 n1 n0) r.toNat (nat32 s3 s2 s1 s0) (nat32 e3 e2 e1 e0) t.toNat k.toNat p.toNat, rest)
  | 2 :: n1 :: n0 :: m :: s3 :: s2 :: s1 :: s0 :: e3 :: e2 :: e1 :: e0 :: t :: k :: p :: rest =>
    some (.amend (nat16 n1 n0) (presentIf m 0 (nat32 s3 s2 s1 s0)) (presentIf m 1 (nat32 e3 e2 e1 e0))
      (presentIf m 2 t.toNat) (presentIf m 3 k.toNat) (presentIf m 4 p.toNat), rest)
  | 3 :: n1 :: n0 :: r :: m :: s3 :: s2 :: s1 :: s0 :: e3 :: e2 :: e1 :: e0 :: rest =>
    some (.move (nat16 n1 n0) r.toNat (presentIf m 0 (nat32 s3 s2 s1 s0)) (presentIf m 1 (nat32 e3 e2 e1 e0)), rest)
  | 4 :: n1 :: n0 :: rest => some (.cancel (nat16 n1 n0), rest)
  | 5 :: n1 :: n0 :: rest => some (.remove (nat16 n1 n0), rest)
  | 6 :: r :: s3 :: s2 :: s1 :: s0 :: rest => some (.dismiss r.toNat (nat32 s3 s2 s1 s0), rest)
  | _ => none

/-- Exactly so many operations, with nothing behind them (R203). -/
def readOps : (count : Nat) → List Byte → Option (List TtOp)
  | 0, [] => some []
  | 0, _ :: _ => none
  | n + 1, bs =>
    match readOp bs with
    | some (op, rest) => (readOps n rest).map fun ops => op :: ops
    | none => none

/-! ### Screening, request by request (R8, R203) -/

/-- RESTART (R17). -/
def screenRestart (payload : List Byte) : Handler :=
  oneByte (fun scope =>
    if scope = 1 then handleRestartFull else if scope = 2 then handleRestartSigns else refused .outOfRange) payload

/-- CLOCK_SET. -/
def screenClockSet (payload : List Byte) : Handler :=
  match payload with
  | [d1, d0, m1, m0, s] => handleClockSet (nat16 d1 d0) (nat16 m1 m0) s.toNat
  | _ => badLength

/-- TT_APPLY. -/
def screenTtApply (payload : List Byte) : Handler :=
  match payload with
  | count :: rest =>
    match readOps count.toNat rest with
    | some ops => handleTtApply ops
    | none => badLength
  | [] => badLength

/-- ROOM_TIMING. -/
def screenRoomTiming (payload : List Byte) : Handler :=
  match payload with
  | [r, a, d, l] => handleRoomTiming r.toNat a.toNat d.toNat l.toNat
  | _ => badLength

/-- TT_READ. -/
def screenTtRead (payload : List Byte) : Handler :=
  match payload with
  | [r, f3, f2, f1, f0, k1, k0, n] => handleTtRead r.toNat (nat32 f3 f2 f1 f0) (nat16 k1 k0) n.toNat
  | _ => badLength

/-- HALL_DEFINE. -/
def screenHallDefine (payload : List Byte) : Handler :=
  match payload with
  | h :: count :: rest =>
    match rest.drop count.toNat with
    | [plate] => handleHallDefine h.toNat (toNats (rest.take count.toNat)) plate.toNat
    | _ => badLength
  | _ => badLength

/-- WALL_DEFINE. -/
def screenWallDefine (payload : List Byte) : Handler :=
  match payload with
  | [w, a, b, source, x, y] => handleWallDefine w.toNat a.toNat b.toNat source.toNat x.toNat y.toNat
  | _ => badLength

/-- ROOM_DEFINE. -/
def screenRoomDefine (payload : List Byte) : Handler :=
  match payload with
  | r :: h :: count :: rest =>
    match rest.drop count.toNat with
    | [plate] => handleRoomDefine r.toNat h.toNat (toNats (rest.take count.toNat)) plate.toNat
    | _ => badLength
  | _ => badLength

/-- SENSE_CONFIG. -/
def screenSenseConfig (payload : List Byte) : Handler :=
  match payload with
  | [l, mode, a, b, c] => handleSenseConfig l.toNat mode.toNat a.toNat b.toNat c.toNat
  | _ => badLength

/-- SENSE_ACK. -/
def screenSenseAck (payload : List Byte) : Handler :=
  match payload with
  | count :: rest => if rest.length = count.toNat then handleSenseAck (toNats rest) else badLength
  | [] => badLength

/-- PLATE_OPEN. -/
def screenPlateOpen (payload : List Byte) : Handler :=
  match payload with
  | [i, z3, z2, z1, z0, d1, d0] => handlePlateOpen i.toNat (nat32 z3 z2 z1 z0) (readDigest d1 d0)
  | _ => badLength

/-- PLATE_DATA. -/
def screenPlateData (payload : List Byte) : Handler :=
  match payload with
  | i :: o3 :: o2 :: o1 :: o0 :: c1 :: c0 :: rest =>
    if rest.length = nat16 c1 c0 then handlePlateData i.toNat (nat32 o3 o2 o1 o0) rest else badLength
  | _ => badLength

/-- POOL_WATCH. -/
def screenPoolWatch (payload : List Byte) : Handler :=
  match payload with
  | [n1, n0] => handlePoolWatch (nat16 n1 n0)
  | _ => badLength

/-- SETTINGS_PLATES. -/
def screenSettingsPlates (payload : List Byte) : Handler :=
  match payload with
  | [u, p, i, s, d, m, c] =>
    handleSettingsPlates ⟨u.toNat, p.toNat, i.toNat, s.toNat, d.toNat, m.toNat, c.toNat⟩
  | _ => badLength

/-- SIGN_DEFINE: the CORRIDOR form when the role byte is 2, the DOOR form otherwise (R203). -/
def screenSignDefine (payload : List Byte) : Handler :=
  match payload with
  | t :: p :: role :: rest =>
    if role = 2 then
      match rest with
      | count :: routes =>
        if routes.length = 2 * count.toNat then handleSignDefine t.toNat p.toNat (.corridor (routePairs routes))
        else badLength
      | [] => badLength
    else
      match rest with
      | [g, key] =>
        handleSignDefine t.toNat p.toNat
          (if role = 1 then .door g.toNat key.toNat else .other role.toNat g.toNat key.toNat)
      | _ => badLength
  | _ => badLength

/-- HEALTH_CLEAR. -/
def screenHealthClear (payload : List Byte) : Handler :=
  match payload with
  | [k, a, b, m1, m0] => handleHealthClear k.toNat a.toNat b.toNat (nat16 m1 m0)
  | _ => badLength

/-- HEALTH_READ. -/
def screenHealthRead (payload : List Byte) : Handler :=
  match payload with
  | [mode, x, y, z] => handleHealthRead mode.toNat x.toNat y.toNat z.toNat
  | _ => badLength

/-- A queued request screened by KIND and length and handed to its owner (R8, steps 1 to 3; spec/10 KIND codes). -/
def screenRequest (kind : Byte) (payload : List Byte) : Handler :=
  match kind.toNat with
  | 0x01 => noFields handleIdentify payload
  | 0x02 => noFields handleStatus payload
  | 0x03 => screenRestart payload
  | 0x10 => screenClockSet payload
  | 0x11 => noFields handleClockRead payload
  | 0x18 => screenTtApply payload
  | 0x19 => screenRoomTiming payload
  | 0x1A => screenTtRead payload
  | 0x20 => screenHallDefine payload
  | 0x21 => oneByte handleHallRemove payload
  | 0x22 => screenWallDefine payload
  | 0x23 => oneByte handleWallRemove payload
  | 0x24 => twoBytes handleWallSet payload
  | 0x25 => screenRoomDefine payload
  | 0x26 => oneByte handleRoomRemove payload
  | 0x27 => oneByte handleLayoutSettle payload
  | 0x28 => oneByte handleLayoutRead payload
  | 0x30 => screenSenseConfig payload
  | 0x31 => screenSenseAck payload
  | 0x32 => noFields handleSenseRead payload
  | 0x38 => screenPlateOpen payload
  | 0x39 => screenPlateData payload
  | 0x3A => oneByte handlePlateClose payload
  | 0x3B => oneByte handlePlateDelete payload
  | 0x3C => twoBytes handlePlateList payload
  | 0x3D => screenPoolWatch payload
  | 0x3E => screenSettingsPlates payload
  | 0x40 => screenSignDefine payload
  | 0x41 => twoBytes handleSignRemove payload
  | 0x42 => twoBytes handleSignRead payload
  | 0x48 => twoBytes handleTrunkStart payload
  | 0x49 => oneByte handleTrunkStop payload
  | 0x4A => oneByte handleTrunkCount payload
  | 0x4B => oneByte handleTrunkCheck payload
  | 0x50 => oneByte handleHealthArm payload
  | 0x51 => screenHealthClear payload
  | 0x52 => twoBytes handleHealthSelect payload
  | 0x53 => twoBytes handleHealthWindow payload
  | 0x54 => screenHealthRead payload
  | _ => refused .unknownRequest

/-- A request may be taken (R8). -/
def mayTake (s : State) : Bool := s.link.service.isEmpty && s.link.readySent

/-- The request at the head of the input queue is taken, screened and handled (R8). -/
def takeRequest (s : State) : State :=
  match s.link.queue with
  | [] => s
  | f :: rest =>
    if mayTake s then serve f.tag (screenRequest f.kind f.payload) (modifyLink (fun l => { l with queue := rest }) s)
    else s

/-- TAKE_REQUEST (R8; notes/assumptions/3.md). -/
def execTakeRequest (s : State) : Host.Outcome State Fault Refusal := .next (takeRequest s)

end Sys2Proof.Machine
end

