-- ==== Sys2Proof/Machine/Dispatch.lean ====
section
/-! DEFINITION. One arm per command, each a direct call of its meaning. -/

namespace Sys2Proof.Machine

def exec (i : Instr) (s : State) : Host.Outcome State Fault Refusal :=
  match i with
  | .byteReceived b => Sys2Proof.Machine.execByteReceived b s
  | .badStopBit => Sys2Proof.Machine.execBadStopBit s
  | .receiveGapTimeout => Sys2Proof.Machine.execReceiveGapTimeout s
  | .takeRequest => Sys2Proof.Machine.execTakeRequest s
  | .frameTransmitted => Sys2Proof.Machine.execFrameTransmitted s
  | .fullReset cause strap1 strap0 => Sys2Proof.Machine.execFullReset cause strap1 strap0 s
  | .identify tag => Sys2Proof.Machine.execIdentify tag s
  | .status tag => Sys2Proof.Machine.execStatus tag s
  | .restartFull tag => Sys2Proof.Machine.execRestartFull tag s
  | .restartSigns tag => Sys2Proof.Machine.execRestartSigns tag s
  | .clockSet tag day minute second => Sys2Proof.Machine.execClockSet tag day minute second s
  | .clockRead tag => Sys2Proof.Machine.execClockRead tag s
  | .clockIntervalEnd => Sys2Proof.Machine.execClockIntervalEnd s
  | .ttApply tag ops => Sys2Proof.Machine.execTtApply tag ops s
  | .roomTiming tag room a d l => Sys2Proof.Machine.execRoomTiming tag room a d l s
  | .ttRead tag room start skip count => Sys2Proof.Machine.execTtRead tag room start skip count s
  | .hallDefine tag hall segments plate => Sys2Proof.Machine.execHallDefine tag hall segments plate s
  | .hallRemove tag hall => Sys2Proof.Machine.execHallRemove tag hall s
  | .wallDefine tag wall segA segB source x y => Sys2Proof.Machine.execWallDefine tag wall segA segB source x y s
  | .wallRemove tag wall => Sys2Proof.Machine.execWallRemove tag wall s
  | .wallSet tag wall state => Sys2Proof.Machine.execWallSet tag wall state s
  | .roomDefine tag room hall segments plate => Sys2Proof.Machine.execRoomDefine tag room hall segments plate s
  | .roomRemove tag room => Sys2Proof.Machine.execRoomRemove tag room s
  | .layoutSettle tag settle => Sys2Proof.Machine.execLayoutSettle tag settle s
  | .layoutRead tag hall => Sys2Proof.Machine.execLayoutRead tag hall s
  | .wallHoldExpiry wall => Sys2Proof.Machine.execWallHoldExpiry wall s
  | .lineLevelChange line level => Sys2Proof.Machine.execLineLevelChange line level s
  | .filterExpiry line => Sys2Proof.Machine.execFilterExpiry line s
  | .senseConfig tag line mode o1 o2 o3 => Sys2Proof.Machine.execSenseConfig tag line mode o1 o2 o3 s
  | .senseAck tag lines => Sys2Proof.Machine.execSenseAck tag lines s
  | .senseRead tag => Sys2Proof.Machine.execSenseRead tag s
  | .plateOpen tag id size digest => Sys2Proof.Machine.execPlateOpen tag id size digest s
  | .plateData tag id offset bytes => Sys2Proof.Machine.execPlateData tag id offset bytes s
  | .plateClose tag id => Sys2Proof.Machine.execPlateClose tag id s
  | .plateDelete tag id => Sys2Proof.Machine.execPlateDelete tag id s
  | .plateList tag start count => Sys2Proof.Machine.execPlateList tag start count s
  | .poolWatch tag n => Sys2Proof.Machine.execPoolWatch tag n s
  | .settingsPlates tag settings => Sys2Proof.Machine.execSettingsPlates tag settings s
  | .signDefine tag trunk position form => Sys2Proof.Machine.execSignDefine tag trunk position form s
  | .signRemove tag trunk position => Sys2Proof.Machine.execSignRemove tag trunk position s
  | .signRead tag trunk position => Sys2Proof.Machine.execSignRead tag trunk position s
  | .viewExpiry trunk position => Sys2Proof.Machine.execViewExpiry trunk position s
  | .creditAccrual => Sys2Proof.Machine.execCreditAccrual s
  | .overdueDeadlineExpiry trunk position => Sys2Proof.Machine.execOverdueDeadlineExpiry trunk position s
  | .trunkStart tag trunk probing => Sys2Proof.Machine.execTrunkStart tag trunk probing s
  | .trunkStop tag trunk => Sys2Proof.Machine.execTrunkStop tag trunk s
  | .stopTakesEffect trunk ending lines => Sys2Proof.Machine.execStopTakesEffect trunk ending lines s
  | .trunkCount tag trunk => Sys2Proof.Machine.execTrunkCount tag trunk s
  | .rewalkBegin trunk ending lines => Sys2Proof.Machine.execRewalkBegin trunk ending lines s
  | .trunkCheck tag trunk => Sys2Proof.Machine.execTrunkCheck tag trunk s
  | .countReply trunk frame lines => Sys2Proof.Machine.execCountReply trunk frame lines s
  | .queryReply trunk frame lines => Sys2Proof.Machine.execQueryReply trunk frame lines s
  | .loadAck trunk frame lines => Sys2Proof.Machine.execLoadAck trunk frame lines s
  | .showAnswer trunk frame lines => Sys2Proof.Machine.execShowAnswer trunk frame lines s
  | .callReply trunk frame lines => Sys2Proof.Machine.execCallReply trunk frame lines s
  | .trunkReplyTimeout trunk lines => Sys2Proof.Machine.execTrunkReplyTimeout trunk lines s
  | .strayTrunkFrame trunk frame => Sys2Proof.Machine.execStrayTrunkFrame trunk frame s
  | .attentionLineRise trunk level => Sys2Proof.Machine.execAttentionLineRise trunk level s
  | .probeIntervalExpiry trunk => Sys2Proof.Machine.execProbeIntervalExpiry trunk s
  | .probeEnd trunk result lines => Sys2Proof.Machine.execProbeEnd trunk result lines s
  | .recoveryTimerExpiry trunk position => Sys2Proof.Machine.execRecoveryTimerExpiry trunk position s
  | .wallSample => Sys2Proof.Machine.execWallSample s
  | .graceEnd cls => Sys2Proof.Machine.execGraceEnd cls s
  | .healthArm tag cls => Sys2Proof.Machine.execHealthArm tag cls s
  | .healthClear tag kind a b mask => Sys2Proof.Machine.execHealthClear tag kind a b mask s
  | .healthSelect tag condition value => Sys2Proof.Machine.execHealthSelect tag condition value s
  | .healthWindow tag kind w => Sys2Proof.Machine.execHealthWindow tag kind w s
  | .healthRead tag mode x y z => Sys2Proof.Machine.execHealthRead tag mode x y z s
  | .resetPinActive => Sys2Proof.Machine.execResetPinActive s
  | .powerAbsent => Sys2Proof.Machine.execPowerAbsent s

end Sys2Proof.Machine
end

