-- ==== Sys2Proof/Machine/Encode.lean ====
section
/-! DEFINITION. The frame that carries a request row on the Control Link (spec/10 KIND codes, Request payloads, TT_APPLY
operations). Events travel on no frame. -/

namespace Sys2Proof.Machine

/-- A presence mask's bit. -/
def maskBit (v : Option Nat) (weight : Nat) : Nat := if v.isSome then weight else 0

/-- An operation of TT_APPLY; a field that is absent is sent as 0 behind a clear mask bit. -/
def encodeOp (op : TtOp) : List Byte :=
  match op with
  | .add n r b e t k p => u8 1 ++ u16 n ++ u8 r ++ u32 b ++ u32 e ++ u8 t ++ u8 k ++ u8 p
  | .amend n b e t k p =>
    u8 2 ++ u16 n ++ u8 (maskBit b 1 + maskBit e 2 + maskBit t 4 + maskBit k 8 + maskBit p 16) ++ u32 (b.getD 0) ++
      u32 (e.getD 0) ++ u8 (t.getD 0) ++ u8 (k.getD 0) ++ u8 (p.getD 0)
  | .move n r b e => u8 3 ++ u16 n ++ u8 r ++ u8 (maskBit b 1 + maskBit e 2) ++ u32 (b.getD 0) ++ u32 (e.getD 0)
  | .cancel n => u8 4 ++ u16 n
  | .remove n => u8 5 ++ u16 n
  | .dismiss r b => u8 6 ++ u8 r ++ u32 b

/-- The role fields of SIGN_DEFINE. -/
def encodeForm (f : SignForm) : List Byte :=
  match f with
  | .door g key => u8 1 ++ u8 g ++ u8 key
  | .corridor routes => u8 2 ++ listBytes (fun r : Nat × Nat => u8 r.1 ++ u8 r.2) routes
  | .other role g key => u8 role ++ u8 g ++ u8 key

/-- KIND and payload of a request row; none for an event. -/
def encodePayload (i : Instr) : Option (Byte × Byte × List Byte) :=
  match i with
  | .identify tag => some (0x01, tag, [])
  | .status tag => some (0x02, tag, [])
  | .restartFull tag => some (0x03, tag, u8 1)
  | .restartSigns tag => some (0x03, tag, u8 2)
  | .clockSet tag d m s => some (0x10, tag, u16 d ++ u16 m ++ u8 s)
  | .clockRead tag => some (0x11, tag, [])
  | .ttApply tag ops => some (0x18, tag, u8 ops.length ++ ops.flatMap encodeOp)
  | .roomTiming tag r a d l => some (0x19, tag, u8 r ++ u8 a ++ u8 d ++ u8 l)
  | .ttRead tag r b k n => some (0x1A, tag, u8 r ++ u32 b ++ u16 k ++ u8 n)
  | .hallDefine tag h gs p => some (0x20, tag, u8 h ++ listBytes u8 gs ++ u8 p)
  | .hallRemove tag h => some (0x21, tag, u8 h)
  | .wallDefine tag w a b s x y => some (0x22, tag, u8 w ++ u8 a ++ u8 b ++ u8 s ++ u8 x ++ u8 y)
  | .wallRemove tag w => some (0x23, tag, u8 w)
  | .wallSet tag w v => some (0x24, tag, u8 w ++ u8 v)
  | .roomDefine tag r h gs p => some (0x25, tag, u8 r ++ u8 h ++ listBytes u8 gs ++ u8 p)
  | .roomRemove tag r => some (0x26, tag, u8 r)
  | .layoutSettle tag t => some (0x27, tag, u8 t)
  | .layoutRead tag h => some (0x28, tag, u8 h)
  | .senseConfig tag l m x y z => some (0x30, tag, u8 l ++ u8 m ++ u8 x ++ u8 y ++ u8 z)
  | .senseAck tag ls => some (0x31, tag, listBytes u8 ls)
  | .senseRead tag => some (0x32, tag, [])
  | .plateOpen tag i z d => some (0x38, tag, u8 i ++ u32 z ++ digestBytes d)
  | .plateData tag i o bs => some (0x39, tag, u8 i ++ u32 o ++ u16 bs.length ++ bs)
  | .plateClose tag i => some (0x3A, tag, u8 i)
  | .plateDelete tag i => some (0x3B, tag, u8 i)
  | .plateList tag b n => some (0x3C, tag, u8 b ++ u8 n)
  | .poolWatch tag n => some (0x3D, tag, u16 n)
  | .settingsPlates tag x => some (0x3E, tag, settingsBytes x)
  | .signDefine tag t p f => some (0x40, tag, u8 t ++ u8 p ++ encodeForm f)
  | .signRemove tag t p => some (0x41, tag, u8 t ++ u8 p)
  | .signRead tag t p => some (0x42, tag, u8 t ++ u8 p)
  | .trunkStart tag t v => some (0x48, tag, u8 t ++ u8 v)
  | .trunkStop tag t => some (0x49, tag, u8 t)
  | .trunkCount tag t => some (0x4A, tag, u8 t)
  | .trunkCheck tag t => some (0x4B, tag, u8 t)
  | .healthArm tag c => some (0x50, tag, u8 c)
  | .healthClear tag k a b m => some (0x51, tag, u8 k ++ u8 a ++ u8 b ++ u16 m)
  | .healthSelect tag c v => some (0x52, tag, u8 c ++ u8 v)
  | .healthWindow tag k w => some (0x53, tag, u8 k ++ u8 w)
  | .healthRead tag m x y z => some (0x54, tag, u8 m ++ u8 x ++ u8 y ++ u8 z)
  | .byteReceived _ => none
  | .badStopBit => none
  | .receiveGapTimeout => none
  | .takeRequest => none
  | .frameTransmitted => none
  | .fullReset _ _ _ => none
  | .clockIntervalEnd => none
  | .wallHoldExpiry _ => none
  | .lineLevelChange _ _ => none
  | .filterExpiry _ => none
  | .viewExpiry _ _ => none
  | .creditAccrual => none
  | .overdueDeadlineExpiry _ _ => none
  | .stopTakesEffect _ _ _ => none
  | .rewalkBegin _ _ _ => none
  | .countReply _ _ _ => none
  | .queryReply _ _ _ => none
  | .loadAck _ _ _ => none
  | .showAnswer _ _ _ => none
  | .callReply _ _ _ => none
  | .trunkReplyTimeout _ _ => none
  | .strayTrunkFrame _ _ => none
  | .attentionLineRise _ _ => none
  | .probeIntervalExpiry _ => none
  | .probeEnd _ _ _ => none
  | .recoveryTimerExpiry _ _ => none
  | .wallSample => none
  | .graceEnd _ => none
  | .resetPinActive => none
  | .powerAbsent => none

/-- The frame of a request row. -/
def encodeRequest (i : Instr) : Option Frame := (encodePayload i).map fun x => ⟨x.1, x.2.1, x.2.2⟩

end Sys2Proof.Machine
end

