-- ==== Sys2Proof/Safety.lean ====
section
/-! DEFINITION. What a sound state of the part is, block by block: the laws the manual says hold at all times, in the terms the
statements use. -/

namespace Sys2Proof.Machine

/-! ### Between commands -/

/-- Between commands no notice is left inside the part and no trunk is left told to decide (notes/assumptions/15.md,
16.md). -/
def Settled (s : State) : Prop :=
  s.outbox = [] ∧ ((upTo Config.trunks).all fun t => !(trunkOf s t).wake) = true

/-! ### Link Interface -/

/-- At most 4 frames wait (R7) and at most 32 notices (R12); a reply on the line is a reply in service; the transmitter of a
part that may transmit never idles while a frame is ready (R13). -/
def LinkLawful (s : State) : Prop :=
  s.link.queue.length ≤ 4 ∧ s.link.notices.length ≤ 32 ∧ (s.link.line = .reply → s.link.service ≠ []) ∧
    (silenced s = false → s.link.line = .idle → s.link.service = [] ∧ s.link.notices = [])

/-! ### Venue Clock -/

/-- The reading lies in its ranges; an UNSET clock reads 0 and runs no interval; a SET clock runs one (R18, R19). -/
def ClockLawful (s : State) : Prop :=
  s.clock.day ≤ 65535 ∧ s.clock.minute ≤ 1439 ∧ s.clock.second ≤ 59 ∧ s.clock.isSet = s.clock.intervalEnd.isSome ∧
    (s.clock.isSet = false → s.clock.day = 0 ∧ s.clock.minute = 0 ∧ s.clock.second = 0)

/-! ### Timetable -/

/-- The SCHEDULED session with a number (R24). -/
def IsScheduledAs (e : Entry) (number : Nat) : Prop := e.what = .session number false

/-- A MOVED tombstone for a session (R24). -/
def IsMovedFor (e : Entry) (number : Nat) : Prop := ∃ creation, e.what = .tombstone creation (some number)

/-- An entry's interval is one of 1 to 1440 venue minutes (R24). -/
def IntervalLawful (e : Entry) : Prop :=
  e.start < e.stop ∧ e.stop ≤ e.start + 1440 ∧ e.stop ≤ Config.lastMinute

/-- Two room definitions share a segment (R27). -/
def ShareSegment (s : State) (r q : Nat) : Prop := r = q ∨ ∃ g, g ∈ roomSegments s r ∧ g ∈ roomSegments s q

/-- No two SCHEDULED sessions whose room definitions share a segment overlap (R27). -/
def OverlapLawful (s : State) (es : List Entry) : Prop :=
  ∀ e ∈ es, ∀ f ∈ es, ∀ n m, IsScheduledAs e n → IsScheduledAs f m → n ≠ m → ShareSegment s e.room f.room →
    e.stop ≤ f.start ∨ f.stop ≤ e.start

/-- The laws of R25, R26 and R27 on the table: at most 1024 entries, in table order; session numbers are unique; every entry
names a defined room definition and has a lawful interval; every MOVED tombstone's target is a SCHEDULED session of another
room definition, and no room definition holds two for one target; the overlap law. -/
def TimetableLawful (s : State) : Prop :=
  s.table.entries.length ≤ 1024 ∧
  (s.table.entries.Pairwise fun e f => lexLt (entryKey f) (entryKey e) = false) ∧
  (s.table.entries.filterMap sessionNumber).Nodup ∧
  (∀ e ∈ s.table.entries, isListed s.layout.rooms e.room = true ∧ IntervalLawful e) ∧
  (∀ e ∈ s.table.entries, ∀ n, IsMovedFor e n → ∃ f ∈ s.table.entries, IsScheduledAs f n ∧ f.room ≠ e.room) ∧
  (s.table.entries.Pairwise fun e f => ∀ n, IsMovedFor e n → IsMovedFor f n → e.room ≠ f.room) ∧
  OverlapLawful s s.table.entries

/-! ### Layout Unit -/

/-- Segments of a list that can be reached from one another across joined pairs of the list (R59). -/
inductive Reaches (join : Nat → Nat → Bool) (segments : List Nat) : Nat → Nat → Prop
  /-- A segment reaches itself. -/
  | here (g : Nat) : g ∈ segments → Reaches join segments g g
  /-- One more step across a joined pair. -/
  | onward (g f h : Nat) : Reaches join segments g f → h ∈ segments → join f h = true → Reaches join segments g h

/-- A segment set as the Layout Unit keeps it: 1–6 segments within 1–40, rising (R44). -/
def SegmentsLawful (gs : List Nat) : Prop :=
  1 ≤ gs.length ∧ gs.length ≤ 6 ∧ rising gs = true ∧ ∀ g ∈ gs, 1 ≤ g ∧ g ≤ 40

/-- The laws of R44, R47, R51 and R59–R61: halls do not share segments; a wall joins two segments of its hall; a room
definition is a connected set of segments of its hall, unlike every other; formations and reconfiguring indications are
those the walls and room definitions give; timing records stand for exactly the defined room definitions, with D ≤ A
(R40). -/
def LayoutLawful (s : State) : Prop :=
  risingKeys s.layout.halls = true ∧ risingKeys s.layout.walls = true ∧ risingKeys s.layout.rooms = true ∧
  (∀ e ∈ s.layout.halls, within Config.halls e.1 = true ∧ SegmentsLawful e.2.segments ∧
    e.2.formation = formationOf s e.2.segments ∧ e.2.reconfiguring = reconfiguringNow s e.1) ∧
  (∀ e ∈ s.layout.halls, ∀ f ∈ s.layout.halls, e.1 ≠ f.1 → ∀ g, g ∈ e.2.segments → g ∉ f.2.segments) ∧
  (∀ e ∈ s.layout.walls, within Config.walls e.1 = true ∧ e.2.segA ≠ e.2.segB ∧
    e.2.segA ∈ hallSegments s e.2.hall ∧ e.2.segB ∈ hallSegments s e.2.hall) ∧
  (∀ e ∈ s.layout.rooms, within Config.rooms e.1 = true ∧ SegmentsLawful e.2.segments ∧
    (∀ g ∈ e.2.segments, g ∈ hallSegments s e.2.hall) ∧ connected s (fun _ _ => true) e.2.segments = true) ∧
  (∀ e ∈ s.layout.rooms, ∀ f ∈ s.layout.rooms, e.1 ≠ f.1 → e.2.segments ≠ f.2.segments) ∧
  (∀ r, isListed s.table.timing r = isListed s.layout.rooms r) ∧
  (∀ r t, lookup s.table.timing r = some t → t.a ≤ 240 ∧ t.d ≤ 60 ∧ t.l ≤ 30 ∧ t.d ≤ t.a)

/-! ### Sense Unit -/

/-- A LAMP line is LIT exactly while one of its hall's two inputs is true, and the mismatch input is the hall's live
LAYOUT_MISMATCH (R73). That flag is the Resolver's mismatch value (R123), and the Resolver's doors-closed copies are the
Sense Unit's doors-closed states (R71, R103). The reconfiguring input of a hall number is true exactly while that hall is
defined and its indication is true, which its walls decide (R61). -/
def LampsLawful (s : State) : Prop :=
  (∀ l h lit, (lineOf s l).mode = .lamp h lit →
    lit = (s.sense.reconfiguring.contains h || s.sense.mismatch.contains h)) ∧
  (∀ h, s.sense.mismatch.contains h = isLive s (.hall h) .layoutMismatch) ∧
  (∀ h, s.resolver.mismatch.contains h = isLive s (.hall h) .layoutMismatch) ∧
  (∀ h, s.resolver.doors.contains h = s.sense.doors.contains h) ∧
  risingKeys s.layout.halls = true ∧ risingKeys s.layout.walls = true ∧
  (∀ e ∈ s.layout.halls, e.2.reconfiguring = reconfiguringNow s e.1) ∧
  (∀ e ∈ s.layout.walls, isListed s.layout.halls e.2.hall = true) ∧
  ∀ h, s.sense.reconfiguring.contains h = (lookup s.layout.halls h).any fun x => x.reconfiguring

/-! ### Plate Store -/

/-- Every page held by a plate, plate by plate (R78). -/
def heldPages (s : State) : List Nat := s.plates.plates.flatMap fun e => e.2.pages

/-- The accounting of R78 and R79: no page is held twice, the free count and the held pages make 2048, and every record's
pages and received count fit its size. -/
def PoolLawful (s : State) : Prop :=
  risingKeys s.plates.plates = true ∧ poolWf s.plates.pool = true ∧
  s.plates.freeCount + (heldPages s).length = 2048 ∧ (heldPages s).Nodup ∧
  (∀ p ∈ heldPages s, 1 ≤ p ∧ p ≤ 2048) ∧
  ∀ e ∈ s.plates.plates, within Config.plates e.1 = true ∧ within Config.plateSize e.2.size = true ∧
    e.2.pages.length = pagesFor e.2.size ∧ e.2.received ≤ e.2.size ∧ (e.2.state ≠ .filling → e.2.received = e.2.size)

/-- The layout references on a plate: the halls and the room definitions named by it (R54). -/
def layoutRefsOf (s : State) (id : Nat) : Nat :=
  (s.layout.halls.countP fun e => e.2.plate == id) + (s.layout.rooms.countP fun e => e.2.plate == id)

/-- The reference counts of R84 are those the table, the layout and the settings make, and every plate they name is READY
(R85). -/
def ReferencesLawful (s : State) : Prop :=
  risingKeys s.layout.halls = true ∧ risingKeys s.layout.rooms = true ∧ risingKeys s.plates.plates = true ∧
  ∀ id, id ≠ 0 →
    (∀ p, plateAt s id = some p →
      p.timetableRefs = timetableRefsOf s.table.entries id ∧ p.layoutRefs = layoutRefsOf s id ∧
        p.settingsRefs = settingsRefsOf s.plates.settings id) ∧
    (isReady s id = false →
      timetableRefsOf s.table.entries id = 0 ∧ layoutRefsOf s id = 0 ∧ settingsRefsOf s.plates.settings id = 0)

/-! ### Dispatcher and Trunk Controllers -/

/-- Signs and panel records go together, and a record is queued exactly while it is PRESENT and its desired composition
differs from its target (R126, R129). -/
def QueueLawful (s : State) : Prop :=
  risingKeys s.resolver.signs = true ∧ risingKeys s.dispatcher.panels = true ∧
  ∀ k, (signAt s k).isSome = (panelAt s k).isSome ∧
    ∀ g p, signAt s k = some g → panelAt s k = some p →
      (p.queue.isSome = true ↔ p.link = .present ∧ target p ≠ some g.desired)

/-- The position an exchange addresses; COUNT, CALL and PROBE address none (R161). -/
def exchangePosition : Exchange → Option Nat
  | .count _ => none
  | .query p => some p
  | .load r => some r.position
  | .showing p _ => some p
  | .call => none
  | .probe => none

/-- A trunk that is OFF carries no exchange and no step; a SHOW in flight is the one its step asked for; the chain count is at
most 30, a count in flight has found fewer, and no position lies beyond its trunk's keys (R137, R155, R162). -/
def TrunkLawful (x : Trunk) : Prop :=
  (x.state = .off → x.exchange = none ∧ x.step = none) ∧ (∀ d, x.step = some d → d.position < 32) ∧
  (∀ p c d, x.exchange = some (.showing p c) → x.step = some d → d.position = p) ∧ x.chainCount ≤ 30 ∧
  (∀ found, x.exchange = some (.count found) → found.length < 30) ∧
  ∀ e p, x.exchange = some e → exchangePosition e = some p → p < 32

/-- Every trunk record is lawful. -/
def TrunksLawful (s : State) : Prop := ∀ t, TrunkLawful (trunkOf s t)

/-- Every credit lies within −4 to 8, and a show step in flight for a record can be paid from it (R137, R138). -/
def CreditLawful (s : State) : Prop :=
  TrunksLawful s ∧ risingKeys s.dispatcher.panels = true ∧
  (∀ k p, panelAt s k = some p → -4 ≤ p.credit ∧ p.credit ≤ 8) ∧
  ∀ t d c cost, (trunkOf s t).step = some d → d.kind = .showing c cost → (cost = 1 ∨ cost = 3) ∧
    (d.orphaned = false → ∀ p, panelAt s (signKey t d.position) = some p → cost - 4 ≤ p.credit)

/-! ### Health Monitor -/

/-- The order of the held list: panels by trunk, position and condition, then trunks by condition, then walls, then halls
(R198). -/
def HeldBefore (a b : CondKey) : Prop :=
  let place := fun (k : CondKey) => allConditions.idxOf k.condition
  match a.object, b.object with
  | .panel t p, .panel u q => t < u ∨ (t = u ∧ (p < q ∨ (p = q ∧ place a < place b)))
  | .trunk t, .trunk u => t < u ∨ (t = u ∧ place a < place b)
  | .wall v, .wall w => v < w ∨ (v = w ∧ place a < place b)
  | .hall g, .hall h => g < h ∨ (g = h ∧ place a < place b)
  | .panel _ _, _ => True
  | .trunk _, .wall _ => True
  | .trunk _, .hall _ => True
  | .wall _, .hall _ => True
  | _, _ => False

/-- The summary is true exactly while a held flag of a selected condition is set (R196); held flags are set in ARMED classes
alone, and there every live flag is held (R192); the two lists of records stand in the order of R198, no record twice. -/
def HealthLawful (s : State) : Prop :=
  s.health.live.Pairwise HeldBefore ∧ s.health.held.Pairwise HeldBefore ∧
  s.health.summary = (s.health.held.any fun k => !s.health.deselected.contains k.condition) ∧
  (∀ k ∈ s.health.held, classState s (conditionClass k.condition) = .armed) ∧
  ∀ k ∈ s.health.live, classState s (conditionClass k.condition) = .armed → k ∈ s.health.held

/-! ### Requests -/

/-- The checks of a request in their order: the first that fails gives the reply its status, and nothing else changes
(R10). -/
def RefusedInOrder (i : Instr) (tag : Byte) (s : State) : List (Prop × Status) → Prop
  | [] => True
  | (fails, status) :: rest =>
    (fails → exec i s = .next (answered tag (refusal status) [] s)) ∧ (¬ fails → RefusedInOrder i tag s rest)

/-- The bytes of an operation of TT_APPLY, its code among them; none for a code that is not 1–6 (spec/10 TT_APPLY
operations). -/
def opLength (code : Nat) : Option Nat :=
  if code = 1 ∨ code = 2 then some 15
  else if code = 3 then some 13
  else if code = 4 ∨ code = 5 then some 3
  else if code = 6 then some 6
  else none

/-- So many operations, taken in turn, end exactly where the bytes end (R203). -/
def operationsFit : (count : Nat) → List Byte → Bool
  | 0, bs => bs.isEmpty
  | _ + 1, [] => false
  | n + 1, code :: rest =>
    match opLength code.toNat with
    | some len => decide (len ≤ rest.length + 1) && operationsFit n ((code :: rest).drop len)
    | none => false

/-- The role and role fields a SIGN_DEFINE gives, every field in its range (R97, check 1). -/
def FormGives (f : SignForm) (role : SignRole) : Prop :=
  (∃ g key, f = .door g key ∧ 1 ≤ g ∧ g ≤ 40 ∧ key ≤ 1 ∧ role = .door g (key == 1)) ∨
  ∃ routes, f = .corridor routes ∧ 1 ≤ routes.length ∧ routes.length ≤ 8 ∧
    (∀ r ∈ routes, 1 ≤ r.1 ∧ r.1 ≤ 40 ∧ r.2 ≤ 7) ∧ (routes.map fun r => r.1).Nodup ∧ role = .corridor routes

/-! ### Operations of TT_APPLY -/

/-- The checks of an operation in their order: the first that fails is its outcome; where none fails the operation is
done (R28). -/
def OperationChecked (s : State) (w : WorkingCopy) (op : TtOp) : List (Prop × Status) → Prop
  | [] => ∃ next adj, applyOp s w op = .done next adj
  | (fails, status) :: rest =>
    (fails → applyOp s w op = .fails status) ∧ (¬ fails → OperationChecked s w op rest)

/-- A SCHEDULED session of another number overlaps an interval in a room definition that shares a segment (R27). -/
def Overlaps (s : State) (es : List Entry) (number room start stop : Nat) : Prop :=
  ∃ x ∈ es, ∃ q, IsScheduledAs x q ∧ q ≠ number ∧ ShareSegment s x.room room ∧ start < x.stop ∧ x.start < stop

/-- A plate field names a plate that is not READY (R29, R30). -/
def NamesNoPlate (s : State) (id : Nat) : Prop := id ≠ 0 ∧ isReady s id = false

/-- The references entries hold on a plate: one for each title and one for each banner that names it (R36). -/
def referencesHeld (es : List Entry) (id : Nat) : Nat :=
  (es.map fun e => (if e.title = id then 1 else 0) + (if e.banner = id then 1 else 0)).sum

/-- Every plate's timetable references follow from one table to the next (R36, R39). -/
def ReferencesFollow (s u : State) : Prop :=
  ∀ id q, plateAt s id = some q → ∃ q', plateAt u id = some q' ∧
    q'.timetableRefs = q.timetableRefs + referencesHeld u.table.entries id - referencesHeld s.table.entries id

/-! ### The Resolver's choices -/

/-- The mismatch value of every defined hall is the one the state gives it (R123). -/
def MismatchesEvaluated (s : State) : Prop :=
  ∀ h, isListed s.layout.halls h = true → s.resolver.mismatch.contains h = mismatchNow s h

/-- Ties are broken by room definition, then by session number, an entry without one last (R108). -/
def TieBefore (a b : Entry) : Prop :=
  a.room < b.room ∨ (a.room = b.room ∧
    ((∃ n m, sessionNumber a = some n ∧ sessionNumber b = some m ∧ n < m) ∨
      ∃ n, sessionNumber a = some n ∧ sessionNumber b = none))

/-- The earlier start, ties under R108. -/
def StartsBefore (a b : Entry) : Prop := a.start < b.start ∨ (a.start = b.start ∧ TieBefore a b)

/-- The rank of a candidate in a phase; 6 stands for a phase that makes no candidate (R107). -/
def rankNumber (p : Phase) (scheduled : Bool) : Nat :=
  match scheduled, p with
  | true, .underway => 1
  | true, .doors => 2
  | false, _ => 3
  | true, .closing => 4
  | true, .upcoming => 5
  | true, .none => 6

/-- The lower rank, within rank 4 the later end, within the others the earlier start, ties under R108 (R107). -/
def Outranks (s : State) (a b : Entry) : Prop :=
  let rank := fun (e : Entry) => rankNumber (phaseOf s e) (isScheduled e)
  rank a < rank b ∨ (rank a = rank b ∧
    (rank a = 4 → b.stop < a.stop ∨ (a.stop = b.stop ∧ TieBefore a b)) ∧ (rank a ≠ 4 → StartsBefore a b))

/-- The first of a list among the members that fit, by an order that leaves ties to the list: none where none fits (R107,
R108, R109). -/
def IsFirst (es : List Entry) (fits : Entry → Prop) (better : Entry → Entry → Prop) : Option Entry → Prop
  | none => ∀ e ∈ es, ¬ fits e
  | some p => fits p ∧ ∃ before after, es = before ++ p :: after ∧ (∀ e ∈ before, fits e → better p e) ∧
      ∀ e ∈ after, fits e → ¬ better e p

/-- A room definition qualifies for a corridor sign, with its room primary (R119). -/
def Qualifies (s : State) (routes : List (Nat × Nat)) (room : Nat) (p : Entry) : Prop :=
  isFormed s room = true ∧ (∃ g ∈ roomSegments s room, ∃ a, (g, a) ∈ routes) ∧ roomPrimary s room = some p ∧
    phaseOf s p ∈ [Phase.doors, .underway, .upcoming]

/-- The order of a corridor sign's lines: DOORS, UNDERWAY, UPCOMING, then the room primary's start, then the room definition
(R120). -/
def LineBefore (s : State) (x y : Nat × Entry × Nat) : Prop :=
  let group := fun (e : Entry) => [Phase.doors, .underway, .upcoming].idxOf (phaseOf s e)
  group x.2.1 < group y.2.1 ∨ (group x.2.1 = group y.2.1 ∧
    (x.2.1.start < y.2.1.start ∨ (x.2.1.start = y.2.1.start ∧ x.1 < y.1)))

/-! ### The Dispatcher's choices -/

/-- A record's membership judged for a cause other than a desired-change notice: it stays, joins in the class of R131, or
leaves (R129, R131). -/
def MembershipJudged (q q' : Panel) (g : Sign) : Prop :=
  (q'.link = .present ∧ target q' ≠ some g.desired →
    (∀ place, q.queue = some place → q'.queue = some place) ∧
    (q.queue = none → ∃ place, q'.queue = some place ∧
      (place.urgent = true ↔ target q' = none ∨ urgentKind g.desired.kind = true))) ∧
  (¬ (q'.link = .present ∧ target q' ≠ some g.desired) → q'.queue = none)

/-- What a resolution of a sign makes of its panel record: nothing where the composition is unchanged or the record is not
PRESENT; otherwise its place in the queue by R129 and R130. A trunk that then asks may take a step, which moves the record to
the tail of its class and may give it a slot (R132, R134). -/
def PanelHears (s u : State) (k : Nat) (old g : Sign) : Prop :=
  ∀ q, panelAt s k = some q → ∃ q', panelAt u k = some q' ∧
    q' = { q with mirror := q'.mirror, queue := q'.queue } ∧ (g.desired = old.desired ∨ q.link ≠ .present → q' = q) ∧
    (g.desired ≠ old.desired → q.link = .present →
      (target q = some g.desired → q'.queue = none) ∧
      (target q ≠ some g.desired → ∃ place, q'.queue = some place ∧
        (place.urgent = true ↔ (∃ was, q.queue = some was ∧ was.urgent = true) ∨ target q = none ∨
          urgentKind g.desired.kind = true ∨
          ∃ e, signPrimary u g = some e ∧ old.primary ≠ some (identity e) ∧
            (phaseOf u e = .doors ∨ phaseOf u e = .underway))))

/-- A plate is LOADED in a mirror. -/
def LoadedIn (m : List Slot) (id : Nat) : Prop := ∃ x ∈ m, ∃ n, x.state = .loaded id n

/-- The first plate of a composition, in layer order, that is not LOADED in a mirror (R134). -/
def FirstUnloaded (m : List Slot) (c : Composition) (id : Nat) : Prop :=
  ∃ before after, namedPlates c = before ++ id :: after ∧ (∀ i ∈ before, LoadedIn m i) ∧ ¬ LoadedIn m id

/-- The slot given to a plate: the lowest FILLING one that holds it, else the lowest FREE one, else the one with the oldest
stamp, the lowest of equals, among those whose plate neither the desired nor the pending composition names (R135). -/
def SlotGiven (p : Panel) (desired : Composition) (id j : Nat) : Prop :=
  let holds := fun (i : Nat) (t : Slot → Prop) => 1 ≤ i ∧ ∃ x, p.mirror[i - 1]? = some x ∧ t x
  let filling := fun (x : Slot) => ∃ n, x.state = .filling id n
  let free := fun (x : Slot) => x.state = .free
  let unwanted := fun (x : Slot) => ∃ i, slotPlate x = some i ∧ i ∉ namedPlates desired ∧
    ∀ w, p.awaiting = some w → i ∉ namedPlates w.comp
  (holds j filling ∧ ∀ i, i < j → ¬ holds i filling) ∨
  ((∀ i, ¬ holds i filling) ∧ holds j free ∧ ∀ i, i < j → ¬ holds i free) ∨
  ((∀ i, ¬ holds i filling) ∧ (∀ i, ¬ holds i free) ∧
    holds j fun x => unwanted x ∧ ∀ i, i ≠ j → ∀ y, holds i (fun z => z = y ∧ unwanted z) →
      x.stamp < y.stamp ∨ (x.stamp = y.stamp ∧ j < i))

/-- The step allowed for a queued record: a feed of its first plate that is not LOADED (R134), or a show of its desired
composition at its cost (R133, R137). -/
def StepAllowed (s : State) (k : Nat) (p : Panel) (g : Sign) (urgent : Bool) (d : DispatchStep) : Prop :=
  (∃ id x j, FirstUnloaded p.mirror g.desired id ∧ plateAt s id = some x ∧ x.state = .ready ∧ id ∉ g.gone ∧
    SlotGiven p g.desired id j ∧
    d = ⟨k % 32, .feed j id (blocksLoaded (slotAt p.mirror j) id + 1) ((x.size + 63) / 64), false, false⟩) ∨
  ((∀ id ∈ namedPlates g.desired, LoadedIn p.mirror id) ∧ p.awaiting = none ∧
    ∃ cost : Int, d = ⟨k % 32, .showing g.desired cost, false, false⟩ ∧
      ((cost = 1 ∧ ∃ c, p.shown = some c ∧ c.kind = g.desired.kind ∧ c.layers = g.desired.layers) ∨
        (cost = 3 ∧ ∀ c, p.shown = some c → ¬ (c.kind = g.desired.kind ∧ c.layers = g.desired.layers))) ∧
      (urgent = true → cost - 4 ≤ p.credit) ∧ (urgent = false → cost ≤ p.credit))

/-- One place in a queue before another: URGENT first, then the earlier queued-since, then the order of joining (R129). -/
def QueueBefore (a b : QueuePlace) : Prop :=
  (a.urgent = true ∧ b.urgent = false) ∨ (a.urgent = b.urgent ∧ (a.since < b.since ∨ (a.since = b.since ∧ a.seq < b.seq)))

/-- The exchange that carries a step: a LOAD run planned by R168, or a SHOW. -/
def carriedBy (d : DispatchStep) : Exchange :=
  match d.kind with
  | .feed j id first blocks =>
    let groupEnd := min (16 * ((first + 15) / 16)) blocks
    .load ⟨d.position, j, id, first, min (first + 7) groupEnd, groupEnd, blocks, 0⟩
  | .showing c _ => .showing d.position c

/-- A trunk that asks the Dispatcher in one state, as another shows it: idle without a step; with one, the step and its
exchange in flight, its record at the tail of its class and a fed slot FILLING (R132, R134). -/
def StepTaken (n : Nat) (s u : State) : Prop :=
  (scanQueue s n = none → trunkOf u n = trunkOf s n) ∧
  ∀ k p urgent d, scanQueue s n = some (k, p, urgent, d) →
    trunkOf u n = { trunkOf s n with step := some d, exchange := some (carriedBy d) } ∧
    ∃ seq mirror, panelAt u k = some { p with queue := some ⟨urgent, s.now, seq⟩, mirror := mirror } ∧
      (∀ c cost, d.kind = .showing c cost → mirror = p.mirror) ∧
      ∀ j id first blocks, d.kind = .feed j id first blocks →
        mirror = p.mirror.set (j - 1)
          (if slotPlate (slotAt p.mirror j) = some id then ⟨.filling id (first - 1), (slotAt p.mirror j).stamp⟩
          else ⟨.filling id 0, s.now⟩)

/-! ### The arbiter -/

/-- A QUERY is due for a position: its recovery timer, or a query due of a record that is not BLOCKED (R165, R176). -/
def QueryIsDue (s : State) (n p : Nat) : Prop :=
  lookup (trunkOf s n).recovery p = some .due ∨
    ∃ x, panelAt s (32 * n + p) = some x ∧ x.link ≠ .blocked ∧ x.query ≠ .none

/-- What the arbiter of a RUNNING trunk chooses: PROBE, CALL, the lowest QUERY due, a step, or nothing (R176). -/
def ArbiterChooses (n : Nat) (s u : State) : Prop :=
  let x := trunkOf s n
  (x.probeDue = true → trunkOf u n = { x with probeDue := false, exchange := some .probe }) ∧
  (x.probeDue = false → anyAttention x.attention = true → trunkOf u n = { x with exchange := some .call }) ∧
  (x.probeDue = false → anyAttention x.attention = false →
    (∀ p, 1 ≤ p → p ≤ 30 → QueryIsDue s n p → (∀ i, 1 ≤ i → i < p → ¬ QueryIsDue s n i) →
      trunkOf u n = { x with exchange := some (.query p) }) ∧
    ((∀ p, 1 ≤ p → p ≤ 30 → ¬ QueryIsDue s n p) → StepTaken n s u))

/-- A trunk record changed and nothing else. -/
def OnlyTrunk (n : Nat) (x : Trunk) (s u : State) : Prop :=
  trunkOf u n = x ∧ (∀ t, t ≠ n → trunkOf u t = trunkOf s t) ∧ u = { s with trunks := u.trunks }

/-- What a command of one trunk leaves of the others. -/
def OtherTrunksKept (t : Nat) (s u : State) : Prop := ∀ n, n ≠ t → trunkOf u n = trunkOf s n

/-- The step of a trunk record in flight for a position loads a plate into a slot. -/
def LoadsInto (x : Trunk) (position id j : Nat) : Prop :=
  ∃ d first blocks, x.step = some d ∧ d.position = position ∧ d.orphaned = false ∧ d.kind = .feed j id first blocks

/-- A panel record as the stop of its trunk leaves it: ABSENT, its queue, pending composition, query and failures cleared, the
slot of a run in flight FREE, and all else kept (R153). -/
def RecordStopped (x : Trunk) (position : Nat) (q q' : Panel) : Prop :=
  q' = { q with link := .absent, queue := none, awaiting := none, query := .none, failures := 0, mirror := q'.mirror } ∧
  (∀ id j, LoadsInto x position id j → q'.mirror = q.mirror.set (j - 1) ⟨.free, (slotAt q.mirror j).stamp⟩) ∧
  ((∀ id j, ¬ LoadsInto x position id j) → q'.mirror = q.mirror)

/-- A stop takes effect: the trunk OFF with its exchange, step and timers gone, its panel records as R153 sets them, SILENT,
SUPPLY and OVERDUE of its panels cleared; every other trunk, panel record and flag is kept, and every other block (R153,
R158). -/
def TrunkStopped (n : Nat) (s u : State) : Prop :=
  trunkOf u n =
    { trunkOf s n with
      state := .off, stopPending := false, exchange := none, step := none, probeDue := false, probeInterval := none
      recovery := [] } ∧
  OtherTrunksKept n s u ∧ (∀ k, keyTrunk k ≠ n → panelAt u k = panelAt s k) ∧
  (∀ k, keyTrunk k = n → (panelAt s k = none → panelAt u k = none) ∧
    ∀ q, panelAt s k = some q → ∃ q', panelAt u k = some q' ∧ RecordStopped (trunkOf s n) (keyPosition k) q q') ∧
  (∀ c, c ∈ u.health.live ↔ c ∈ s.health.live ∧
    ¬ ∃ k, keyTrunk k = n ∧ (panelAt s k).isSome = true ∧ c.object = panelObject k ∧
      c.condition ∈ [Condition.silent, .supply, .overdue]) ∧
  u = { s with
    dispatcher := { s.dispatcher with panels := u.dispatcher.panels }
    trunks := u.trunks
    health := { s.health with live := u.health.live } }

/-- What a trunk with no exchange in flight decides at the end of one: the stop, the walk, the re-walk, the arbiter, in this
order (R158, R159, R164, R176, R178). -/
def TrunkDecides (n : Nat) (s u : State) : Prop :=
  let x := trunkOf s n
  let toRead := fun (p : Nat) => x.walkPosition < p ∧ p ≤ x.chainCount ∧
    ∃ q, panelAt s (32 * n + p) = some q ∧ q.query = .adopt
  (x.stopPending = true → TrunkStopped n s u) ∧
  (x.stopPending = false →
    (x.state = .counting →
      (∀ p, toRead p → (∀ i, toRead i → p ≤ i) →
        OnlyTrunk n { x with step := none, walkPosition := p - 1, exchange := some (.query p) } s u) ∧
      ((∀ p, ¬ toRead p) → ∃ w, ArbiterChooses n w u ∧
        OnlyTrunk n { x with step := none, state := .running, walkPosition := x.chainCount } s w)) ∧
    (x.state = .running → x.rewalkPending = true →
      OnlyTrunk n
        { x with
          state := .counting, rewalkPending := false, walkPosition := 0, exchange := some (.count []), step := none
          probeInterval := if x.probing then x.probeInterval else none } s u) ∧
    (x.state = .running → x.rewalkPending = false → ∃ w, ArbiterChooses n w u ∧ OnlyTrunk n { x with step := none } s w) ∧
    (x.state = .faulted →
      OnlyTrunk n
        (if x.probeDue then { x with step := none, probeDue := false, exchange := some .probe } else { x with step := none })
        s u) ∧
    (x.state = .off → u = s))

/-! ### What a command leaves alone -/

/-- Every sign record holds the composition that the state gives it, and its primary reference (R100). -/
def SignsResolved (s : State) : Prop :=
  ∀ k g, signAt s k = some g → g.desired = compositionOf s g ∧ g.primary = (signPrimary s g).map identity

/-- A trunk that no exchange holds may take up a probe that is due, an exchange or a step; nothing else of it moves. -/
def TrunkAsked (x y : Trunk) : Prop :=
  y = { x with step := y.step, exchange := y.exchange, probeDue := y.probeDue } ∧ (x.exchange ≠ none → y = x)

/-- What resolutions and the steps that idle trunks then take leave of the signs, the panels, the plates and the trunks:
every sign its role and view, every panel record all but its slots and its place in the queue, every plate all but its
references and runs. -/
def RecordsKept (s t : State) : Prop :=
  (∀ k, (signAt t k).map (fun g => (g.role, g.view)) = (signAt s k).map fun g => (g.role, g.view)) ∧
  (∀ k, (panelAt t k).map (fun p => (p.link, p.shown, p.awaiting, p.query, p.credit, p.failures)) =
    (panelAt s k).map fun p => (p.link, p.shown, p.awaiting, p.query, p.credit, p.failures)) ∧
  (∀ id, (plateAt t id).map (fun p => (p.state, p.size, p.pages, p.received, p.digest)) =
    (plateAt s id).map fun p => (p.state, p.size, p.pages, p.received, p.digest)) ∧
  ∀ n, TrunkAsked (trunkOf s n) (trunkOf t n)

/-- The sense lines but for those listed: a LAMP line keeps its level and its hall, and every other line is as it was. -/
def LinesKept (but : List Nat) (s t : State) : Prop :=
  ∀ l, l ∉ but →
    (∀ h lit, (lineOf s l).mode = .lamp h lit → ∃ now, lineOf t l = ⟨(lineOf s l).input, .lamp h now⟩) ∧
    ((∀ h lit, (lineOf s l).mode ≠ .lamp h lit) → lineOf t l = lineOf s l)

/-- The fields that the minute, table, formation and settings triggers of R102 never touch. -/
def UpstreamFrame (s t : State) : Prop :=
  t = { s with
    plates := { s.plates with plates := t.plates.plates }
    sense := { s.sense with lines := t.sense.lines, mismatch := t.sense.mismatch }
    resolver := { s.resolver with signs := t.resolver.signs, mismatch := t.resolver.mismatch }
    dispatcher := t.dispatcher
    trunks := t.trunks
    health := { s.health with live := t.health.live, held := t.health.held, summary := t.health.summary } }

/-- What those triggers leave alone: the part but for the compositions of the signs, the slots and places of the panels, the
idle trunks, the references on the plates, the mismatch values with the flags and lamps they drive. -/
def UpstreamKept (s t : State) : Prop := LinesKept [] s t ∧ RecordsKept s t ∧ UpstreamFrame s t

/-! ### What the Resolver and the Health Monitor make of an event -/

/-- The signs that an event reaches are resolved, and the others stay as they are (R102). -/
def ResolvedWhere (reached : Sign → Bool) (s u : State) : Prop :=
  ∀ k g, signAt u k = some g →
    (reached g = true → g.desired = compositionOf u g ∧ g.primary = (signPrimary u g).map identity) ∧
    (reached g = false → risingKeys s.resolver.signs = true → signAt s k = some g)

/-- A held flag is set by a rise of its live flag in an ARMED class, and kept (R192). -/
def HeldFollows (s u : State) (k : CondKey) : Prop :=
  k ∈ u.health.held ↔ k ∈ s.health.held ∨
    (classState s (conditionClass k.condition) = .armed ∧ k ∉ s.health.live ∧ k ∈ u.health.live)

/-- The HEALTH notices of an event, for records in the order given: one for each whose live flag rises in an ARMED class, its
held flag clear and its condition selected (R192, R193). -/
def raised (s u : State) (ks : List CondKey) : List Notice :=
  (ks.filter fun k =>
    !s.health.live.contains k && u.health.live.contains k &&
      decide (classState s (conditionClass k.condition) = .armed) && !s.health.held.contains k &&
      isSelected s k.condition).map fun k =>
    .health k.object k.condition true true (latestK u k.object k.condition)

/-- The POOL_AVAILABLE of an event that satisfies the watch (R90, R91). -/
def poolTold (s u : State) : List Notice :=
  match s.plates.watch, u.plates.watch with
  | some _, none => [.poolAvailable u.plates.freeCount]
  | _, _ => []

/-- The mismatch values of the halls given are evaluated; a change is handed to the live flag, and a rise gives its notice,
hall by hall (R123, R183, R192). -/
def MismatchHeard (halls : Nat → Bool) (after : List Notice) (s u : State) : Prop :=
  let live := fun (x : State) (h : Nat) => isLive x (.hall h) .layoutMismatch
  (∀ h, u.resolver.mismatch.contains h = if halls h = true then mismatchNow u h else s.resolver.mismatch.contains h) ∧
  (∀ h, live u h =
    if u.resolver.mismatch.contains h = s.resolver.mismatch.contains h then live s h else u.resolver.mismatch.contains h) ∧
  (∀ h, HeldFollows s u ⟨.hall h, .layoutMismatch⟩) ∧
  (risingKeys u.layout.halls = true → (∀ e ∈ u.layout.halls, within Config.halls e.1 = true) →
    after = raised s u ((upTo 12).map fun h => ⟨.hall h, .layoutMismatch⟩))

/-- The Resolver takes an event: the signs it reaches are resolved, the halls it names evaluated, and no other flag moves
(R102, R123). -/
def ResolverHears (reached : Sign → Bool) (halls : Nat → Bool) (after : List Notice) (s u : State) : Prop :=
  ResolvedWhere reached s u ∧ MismatchHeard halls after s u ∧
  ∀ k, (∀ h, k ≠ ⟨.hall h, .layoutMismatch⟩) →
    (k ∈ u.health.live ↔ k ∈ s.health.live) ∧ (k ∈ u.health.held ↔ k ∈ s.health.held)

/-- The Resolver takes the formation notices of halls (R102, R123). -/
def FormationTaken (halls : List Nat) (after : List Notice) (s u : State) : Prop :=
  ResolverHears (signNames fun g => (hallOfSegment u g).any fun h => halls.contains h) (fun h => halls.contains h) after s u

/-- A change of a hall's walls: its formation and its reconfiguring indication are recomputed, and nothing else of it or of
any other hall moves (R60, R61). -/
def WallsHallRecomputed (h : Nat) (s u : State) : Prop :=
  (∀ j, lookup u.layout.halls j = (lookup s.layout.halls j).map fun y =>
    if j = h then { y with formation := formationOf u y.segments, reconfiguring := reconfiguringNow u h } else y) ∧
  ∀ j, j ≠ h → u.sense.reconfiguring.contains j = s.sense.reconfiguring.contains j

/-- The hall of an event that may change its formation: a notice is handed exactly where it differs (R60). -/
def whereFormationDiffers (h : Nat) (s u : State) : List Nat :=
  if (lookup u.layout.halls h).map (fun x => x.formation) = (lookup s.layout.halls h).map fun x => x.formation then []
  else [h]

/-- A room definition whose entries a commit leaves unlike those it found (R37; DEDUCED for operations that undo each other,
notes/assumptions/37.md). -/
def touches (s u : State) (room : Nat) : Bool :=
  (s.table.entries.filter fun e => e.room == room) != u.table.entries.filter fun e => e.room == room

/-- A commit reaches the Plate Store and the Resolver: references follow, and the signs and halls of the touched room
definitions are resolved and evaluated (R36, R37, R102, R123). -/
def CommitTaken (after : List Notice) (s u : State) : Prop :=
  ReferencesFollow s u ∧
  ResolverHears (signNames fun g => (upTo 96).any fun r => touches s u r && (roomSegments s r).contains g)
    (fun h => (upTo 96).any fun r => touches s u r && (lookup s.layout.rooms r).any fun x => x.hall == h) after s u

/-- A minute event is taken: every sign is resolved, every defined hall evaluated, and the purge's references follow (R23,
R39, R102, R123). -/
def MinuteTaken (after : List Notice) (s u : State) : Prop :=
  ReferencesFollow s u ∧ ResolverHears (fun _ => true) (isListed s.layout.halls) after s u

/-- The hand-offs of doors-closed states: the door signs of a hall whose state changed are resolved, and no other sign
(R71, R102, R103). -/
def DoorsTaken (halls : List Nat) (s u : State) : Prop :=
  ResolvedWhere
    (fun g => halls.any fun h => s.sense.doors.contains h != u.sense.doors.contains h && isDoorOf u h g) s u

/-- What the events of a trunk never touch: the clock, the table, the layout, the sense lines, the plates' settings, the roles
of the signs, the classes and selection of the Health Monitor, the receiver and the requests. -/
def TrunkSideKept (s t : State) : Prop :=
  (∀ k, (signAt t k).map (fun g => g.role) = (signAt s k).map fun g => g.role) ∧
  t = { s with
    link := { s.link with line := t.link.line, notices := t.link.notices, overflow := t.link.overflow }
    plates := { s.plates with plates := t.plates.plates, freeCount := t.plates.freeCount, watch := t.plates.watch }
    resolver := { s.resolver with signs := t.resolver.signs }
    dispatcher := t.dispatcher
    trunks := t.trunks
    health :=
      { s.health with
        live := t.health.live
        held := t.health.held
        summary := t.health.summary
        lineWindows := t.health.lineWindows } }

/-- Notices joined, and perhaps one went on the line: all else of the link is as it was (R12, R13). -/
def LinkOutputOnly (l m : Link) : Prop :=
  m = { l with line := m.line, notices := m.notices, overflow := m.overflow }

/-- The link after notices joined in their order at the end of an event (R12). -/
def linkAfter (ns : List Notice) (s : State) : Link := (ns.foldl (fun acc n => eventNotice n acc) s).link

/-- The entries a purge at minute n leaves: not ended, and no MOVED tombstone of an ended session (R38). -/
def SurvivesPurge (s : State) (n : Nat) (e : Entry) : Prop :=
  n < e.stop + (timingOf s e.room).l ∧
    ∀ goal, IsMovedFor e goal → ∀ f ∈ s.table.entries, sessionNumber f = some goal →
      n < f.stop + (timingOf s f.room).l

/-- A panel record as a stop leaves it (R153). -/
def PanelStopped (p : Panel) : Prop :=
  p.link = .absent ∧ p.queue = none ∧ p.awaiting = none ∧ p.query = .none ∧ p.failures = 0

/-! ### Slot-mirror releases -/

/-- A slot-mirror release of a plate reaches every panel record: each slot that holds the plate becomes FREE, but for the slot
of a run of it in flight, and nothing else of a record moves. Every step in flight that loads the plate is marked for release,
and a trunk one of whose records has a slot freed is told to decide (R87, R132, R151). -/
def SlotsReleased (id : Nat) (s v : State) : Prop :=
  (∀ k, panelAt s k = none → panelAt v k = none) ∧
  (∀ k q, panelAt s k = some q → ∃ m, panelAt v k = some { q with mirror := m } ∧ m.length = q.mirror.length ∧
    ∀ (i : Nat) x, q.mirror[i]? = some x →
      let freed := slotPlate x = some id ∧ ¬ LoadsInto (trunkOf s (keyTrunk k)) (keyPosition k) id (i + 1)
      (freed → m[i]? = some ⟨.free, x.stamp⟩) ∧ (¬ freed → m[i]? = some x)) ∧
  (∀ n, trunkOf v n =
    { trunkOf s n with
      wake := (trunkOf v n).wake
      step := (trunkOf s n).step.map fun d => match d.kind with
        | .feed _ i _ _ => if i = id then { d with release := true } else d
        | .showing _ _ => d }) ∧
  ∀ n, 1 ≤ n → n ≤ 4 → risingKeys s.dispatcher.panels = true →
    ((trunkOf v n).wake = true ↔ (trunkOf s n).wake = true ∨ ∃ k, keyTrunk k = n ∧ panelAt v k ≠ panelAt s k)

/-! ### Ends of exchanges -/

/-- The row by which the exchange in flight of a trunk ends in a given way (R158, R161). -/
def endRow (n : Nat) (e : ExchangeEnd) (lines : Attention) (x : Exchange) : Instr :=
  match e, x with
  | .timeout, _ => .trunkReplyTimeout n lines
  | .probe r, _ => .probeEnd n r lines
  | .frame b, .count _ => .countReply n b lines
  | .frame b, .query _ => .queryReply n b lines
  | .frame b, .load _ => .loadAck n b lines
  | .frame b, .showing _ _ => .showAnswer n b lines
  | .frame b, .call => .callReply n b lines
  | .frame b, .probe => .strayTrunkFrame n b

/-- An exchange of a trunk has ended and its outcome stands in a state, from which the trunk decides what comes next (R161,
R176); the attention lines are those the row carries (log 10), and a walk stands at the given position (R164). -/
def ExchangeEnded (i : Instr) (n : Nat) (lines : Attention) (timers : Table Recovery) (walk : Nat) (s u : State) : Prop :=
  exec i s = .next (flush (decideNext n u)) ∧
    ∃ wake, trunkOf u n =
      { trunkOf s n with
        attention := lines, exchange := none, recovery := timers, wake := wake
        walkPosition := if (trunkOf s n).state = .counting then walk else (trunkOf s n).walkPosition }

/-- What the outcome of an exchange with one panel never touches: the other panels and trunks, the signs, and every block
but the Plate Store's accounts and the flags. Its notices are the POOL_AVAILABLE of a watch it satisfies, before the HEALTH
notices of the panel's flags that rise (notes/assumptions/14.md). -/
def OutcomeKept (n p : Nat) (s u : State) : Prop :=
  let records := (conditionsOf (.panel n p)).map fun c => (⟨.panel n p, c⟩ : CondKey)
  (∀ k, k ≠ 32 * n + p → panelAt u k = panelAt s k) ∧ OtherTrunksKept n s u ∧
  (∀ k, HeldFollows s u k) ∧ (∀ k, k ∉ records → (k ∈ u.health.live ↔ k ∈ s.health.live)) ∧
  u.outbox = poolTold s u ++ raised s u records ∧
  u = { s with
    outbox := u.outbox
    plates := { s.plates with plates := u.plates.plates, freeCount := u.plates.freeCount, watch := u.plates.watch }
    dispatcher := u.dispatcher
    trunks := u.trunks
    health := { s.health with live := u.health.live, held := u.health.held, summary := u.health.summary } }

/-- A record becomes BLOCKED and its recovery timer starts (R147, R166). -/
def Blocked (n p : Nat) (timers : Table Recovery) (s u : State) (q q' : Panel) : Prop :=
  q' = { q with
    link := .blocked, shown := none, awaiting := none, queue := none
    query := if q.query = .overdue then .none else q.query } ∧
  isLive u (.panel n p) .overdue = false ∧
  timers = assign (trunkOf s n).recovery p (.running (s.now + 30000))

/-- A failed exchange counted against a record, the third in a row raising SILENT and blocking it; a BLOCKED record counts
none (R146, R147). -/
def FailureCounted (n p : Nat) (timers : Table Recovery) (s u : State) (q q' : Panel) : Prop :=
  (q.link = .blocked ∨ q.failures < 2 → timers = (trunkOf s n).recovery ∧ u.health = s.health ∧
    q' = if q.link = .blocked then q else { q with failures := q.failures + 1 }) ∧
  (q.link ≠ .blocked → 2 ≤ q.failures → isLive u (.panel n p) .silent = true ∧
    Blocked n p timers s u { q with failures := q.failures + 1 } q')

/-- A run of a plate has ended: its in-flight count falls by 1, and a DOOMED plate whose last run it was becomes EMPTY (R78,
R88, R90). -/
def RunReleased (id : Nat) (s u : State) : Prop :=
  (plateAt s id = none → u.plates = s.plates) ∧ ∀ x, plateAt s id = some x →
    (x.state = .doomed ∧ x.inFlight ≤ 1 →
      let free := s.plates.freeCount + x.pages.length
      plateAt u id = none ∧ (∀ j, j ≠ id → plateAt u j = plateAt s j) ∧ u.plates.freeCount = free ∧
        u.plates.watch = (match s.plates.watch with
          | some w => if w ≤ free then none else some w
          | none => none)) ∧
    (¬ (x.state = .doomed ∧ x.inFlight ≤ 1) →
      u.plates = { s.plates with plates := assign s.plates.plates id { x with inFlight := x.inFlight - 1 } })

/-- A count ends with no stop pending: the chain count and table are recorded, the records it found have ADOPT due, those
above it are ABSENT with their flags and recovery timers cleared, CHAIN_CHANGED is judged against the highest sign, and
COUNT_DONE is produced behind a HEALTH notice; then the trunk decides (R143, R163, R164; notes/assumptions/14.md). -/
def CountEnds (i : Instr) (n : Nat) (lines : Attention) (found : List ChainEntry) (s : State) : Prop :=
  let count := found.length
  let above := fun (p : Nat) => count < p ∧ p < 32
  let changed : CondKey := ⟨.trunk n, .chainChanged⟩
  ∃ timers wake u t, exec i s = .next t ∧ t = flush (decideNext n u) ∧
    trunkOf u n =
      { trunkOf s n with
        attention := lines, exchange := none, chainCount := count, chainTable := found, walkPosition := 0
        recovery := timers, wake := wake } ∧
    (∀ p, (above p ∧ ∃ q, panelAt s (32 * n + p) = some q ∧ q.link = .blocked) → lookup timers p = none) ∧
    (∀ p, ¬ (above p ∧ ∃ q, panelAt s (32 * n + p) = some q ∧ q.link = .blocked) →
      lookup timers p = lookup (trunkOf s n).recovery p) ∧
    OtherTrunksKept n s u ∧ (∀ k, keyTrunk k ≠ n → panelAt u k = panelAt s k) ∧
    (∀ p, p < 32 → panelAt u (32 * n + p) = (panelAt s (32 * n + p)).map fun q =>
      if count < p then { q with link := .absent, queue := none, awaiting := none, query := .none, failures := 0 }
      else { q with query := .adopt }) ∧
    isLive u (.trunk n) .chainChanged = (count != highestSign s n) ∧
    (∀ k, k ≠ changed → (k ∈ u.health.live ↔ k ∈ s.health.live ∧
      ¬ ∃ p, above p ∧ (panelAt s (32 * n + p)).isSome = true ∧ k.object = .panel n p ∧
        k.condition ∈ [Condition.silent, .overdue, .supply])) ∧
    (∀ k, HeldFollows s u k) ∧ u.outbox = raised s u [changed] ++ [.countDone n found] ∧
    u = { s with
      outbox := u.outbox
      dispatcher := u.dispatcher
      trunks := u.trunks
      health := { s.health with live := u.health.live, held := u.health.held, summary := u.health.summary } } ∧
    t.link = linkAfter u.outbox s ∧ (trunkOf t n).chainCount = count ∧ (trunkOf t n).chainTable = found ∧
    isLive t (.trunk n) .chainChanged = (count != highestSign s n) ∧
    (∀ k p, keyTrunk k = n → count < keyPosition k → panelAt t k = some p → PanelStopped p) ∧ TrunkSideKept s t

/-- The outcome of an exchange is discarded: the trunk alone has moved (R146, R152). -/
def Discarded (i : Instr) (n : Nat) (lines : Attention) (walk : Nat) (s : State) : Prop :=
  ∃ u, ExchangeEnded i n lines (trunkOf s n).recovery walk s u ∧ u = { s with trunks := u.trunks } ∧ OtherTrunksKept n s u

/-- A LOAD run ends with so many blocks acknowledged, successful or not: its slot by R136, its record's failure count by
R146, its plate by R88. The outcome of an orphaned step, or of one whose record is gone, is discarded, and its plate's
in-flight count falls all the same (R152). -/
def RunEnds (i : Instr) (n : Nat) (lines : Attention) (r : LoadRun) (acked : Nat) (good : Bool) (s : State) : Prop :=
  ∀ d id first blocks, (trunkOf s n).step = some d → d.kind = .feed r.slot id first blocks → r.plate = id →
    let k := 32 * n + r.position
    let ended := fun (timers : Table Recovery) (u : State) =>
      ExchangeEnded i n lines timers (trunkOf s n).walkPosition s u ∧ OutcomeKept n r.position s u ∧ RunReleased id s u
    let timers := (trunkOf s n).recovery
    (d.orphaned = true ∨ panelAt s k = none → ∃ u, ended timers u ∧ panelAt u k = panelAt s k ∧ u.health = s.health) ∧
    (d.orphaned = false → ∀ q loaded, panelAt s k = some q → q.mirror.length = 8 → 1 ≤ r.slot → r.slot ≤ 8 →
      (slotAt q.mirror r.slot).state = .filling id loaded →
      let old := slotAt q.mirror r.slot
      let counted : Slot :=
        if loaded + acked = blocks then ⟨.loaded id blocks, s.now⟩ else ⟨.filling id (loaded + acked), old.stamp⟩
      let slot : Slot := if d.release then ⟨.free, counted.stamp⟩ else counted
      let slotted : Panel := { q with mirror := q.mirror.set (r.slot - 1) slot }
      ∃ timers' u q', ended timers' u ∧ panelAt u k = some q' ∧
        (good = true → u.health = s.health ∧ timers' = timers ∧
          q' = { slotted with failures := if q.link = .blocked then q.failures else 0 }) ∧
        (good = false → FailureCounted n r.position timers' s u slotted q'))

/-- What the end of an exchange reports before a stop or a re-walk that waits for it takes effect (R153, R158, R159): the
outcome for the one panel it reached, the plate of a run, the flags of a line test, the view that a KEY opens. A COUNT so cut
short reports nothing; what each outcome is, the statements of the exchanges say. -/
def ExchangeReported (n : Nat) (lines : Attention) (x : Exchange) (s u : State) : Prop :=
  let y := trunkOf u n
  let reached := fun (k : Nat) =>
    match exchangePosition x with
    | some p => k = 32 * n + p
    | none => x = .call ∧ keyTrunk k = n
  let moved := fun (k : Nat) => panelAt u k ≠ panelAt s k ∨ signAt u k ≠ signAt s k
  y = { trunkOf s n with
    attention := lines, state := y.state, exchange := y.exchange, recovery := y.recovery, wake := y.wake
    walkPosition := y.walkPosition, rewalkPending := y.rewalkPending, probeInterval := y.probeInterval } ∧
  (x ≠ .probe → y.state = (trunkOf s n).state ∧ y.rewalkPending = (trunkOf s n).rewalkPending ∧
    y.probeInterval = (trunkOf s n).probeInterval) ∧
  OtherTrunksKept n s u ∧ (∀ k, moved k → reached k) ∧ (∀ j k, moved j → moved k → j = k) ∧
  (∀ r, x = .load r → RunReleased r.plate s u) ∧ ((∀ r, x ≠ .load r) → u.plates = s.plates) ∧
  (∀ c, (c ∈ u.health.live ↔ c ∈ s.health.live) ∨ (∃ k, reached k ∧ c.object = panelObject k) ∨
    (x = .probe ∧ (c = ⟨.trunk n, .lineShort⟩ ∨ c = ⟨.trunk n, .lineOpen⟩))) ∧
  (∀ c, HeldFollows s u c) ∧ (∀ found, x = .count found → u = { s with trunks := u.trunks }) ∧
  (x ≠ .call → u.resolver = s.resolver) ∧ (x ≠ .probe → u.health.lineWindows = s.health.lineWindows) ∧
  u = { s with
    outbox := u.outbox
    plates := { s.plates with plates := u.plates.plates, freeCount := u.plates.freeCount, watch := u.plates.watch }
    resolver := { s.resolver with signs := u.resolver.signs }
    dispatcher := u.dispatcher
    trunks := u.trunks
    health :=
      { s.health with
        live := u.health.live
        held := u.health.held
        summary := u.health.summary
        lineWindows := u.health.lineWindows } }

/-- The event of a trunk ends in a state: its notices join the link, and no trunk is left told to decide (R12, R177). -/
def EventEndsIn (n : Nat) (s v t : State) : Prop :=
  trunkOf t n = { trunkOf v n with wake := false } ∧ OtherTrunksKept n s t ∧
  t = { v with outbox := [], trunks := t.trunks, link := linkAfter v.outbox s }

end Sys2Proof.Machine
end

