-- ==== Sys2Proof/WellFormed.lean ====
section
/-! DEFINITION. Well-formed commands: every number fits the field that carries it on its bus (spec/10 Field widths), every
list fits its count field, and an event names an object the part has. Range checks that the part itself makes (R8, R10)
are not repeated here: a well-formed request may still be refused. -/

namespace Sys2Proof

/-- A number carried in one byte. -/
def inByte (n : Nat) : Bool := n < 256
/-- A number carried in two bytes. -/
def inTwoBytes (n : Nat) : Bool := n < 65536
/-- A number carried in four bytes. -/
def inFourBytes (n : Nat) : Bool := n < 4294967296

/-- A tag the host may choose, 1–255 (R2). -/
def hostTag (tag : Byte) : Bool := tag != 0

/-- A trunk of the part, 1–4. -/
def isTrunk (t : Nat) : Bool := 1 ≤ t && t ≤ Config.trunks
/-- A position of a trunk, 1–30. -/
def isPosition (p : Nat) : Bool := 1 ≤ p && p ≤ Config.positions
/-- A sense line of the part, 1–24. -/
def isLine (l : Nat) : Bool := 1 ≤ l && l ≤ Config.lines
/-- A wall number, 1–32. -/
def isWall (w : Nat) : Bool := 1 ≤ w && w ≤ Config.walls

/-- An optional field fits its width whenever it is present. -/
def optionFits (f : Nat → Bool) : Option Nat → Bool
  | none => true
  | some n => f n

/-- The fields of an operation fit their widths (spec/10 TT_APPLY operations). -/
def TtOp.fits : TtOp → Bool
  | .add s r b e t k p => inTwoBytes s && inByte r && inFourBytes b && inFourBytes e && inByte t && inByte k && inByte p
  | .amend s b e t k p =>
    inTwoBytes s && optionFits inFourBytes b && optionFits inFourBytes e && optionFits inByte t && optionFits inByte k &&
      optionFits inByte p
  | .move s r b e => inTwoBytes s && inByte r && optionFits inFourBytes b && optionFits inFourBytes e
  | .cancel s => inTwoBytes s
  | .remove s => inTwoBytes s
  | .dismiss r b => inByte r && inFourBytes b

/-- The seven settings are plate ids or 0. -/
def Settings.fits (x : Settings) : Bool :=
  [x.untitled, x.priv, x.idle, x.setup, x.doorsClosed, x.moved, x.cancelled].all inByte

/-- The role fields fit, and `other` carries neither role code (R203). -/
def SignForm.fits : SignForm → Bool
  | .door g k => inByte g && inByte k
  | .corridor rs => inByte rs.length && rs.all fun r => inByte r.1 && inByte r.2
  | .other role g k => inByte role && role != 1 && role != 2 && inByte g && inByte k

/-- A line-test result: OPEN's k lies in 0–30 (R174). -/
def ProbeResult.fits : ProbeResult → Bool
  | .ok => true
  | .short => true
  | .openAt k => k ≤ Config.positions

/-- The end of an exchange is one the trunk can show. -/
def ExchangeEnd.fits : ExchangeEnd → Bool
  | .frame _ => true
  | .timeout => true
  | .probe r => r.fits

/-- The command is one its bus, timer or pin can deliver. -/
def Instr.wellFormed : Instr → Bool
  | .byteReceived _ => true
  | .badStopBit => true
  | .receiveGapTimeout => true
  | .takeRequest => true
  | .frameTransmitted => true
  | .fullReset _ _ _ => true
  | .identify tag => hostTag tag
  | .status tag => hostTag tag
  | .restartFull tag => hostTag tag
  | .restartSigns tag => hostTag tag
  | .clockSet tag d m s => hostTag tag && inTwoBytes d && inTwoBytes m && inByte s
  | .clockRead tag => hostTag tag
  | .clockIntervalEnd => true
  | .ttApply tag ops => hostTag tag && inByte ops.length && ops.all TtOp.fits
  | .roomTiming tag r a d l => hostTag tag && inByte r && inByte a && inByte d && inByte l
  | .ttRead tag r b k n => hostTag tag && inByte r && inFourBytes b && inTwoBytes k && inByte n
  | .hallDefine tag h gs p => hostTag tag && inByte h && inByte gs.length && gs.all inByte && inByte p
  | .hallRemove tag h => hostTag tag && inByte h
  | .wallDefine tag w a b s x y =>
    hostTag tag && inByte w && inByte a && inByte b && inByte s && inByte x && inByte y
  | .wallRemove tag w => hostTag tag && inByte w
  | .wallSet tag w v => hostTag tag && inByte w && inByte v
  | .roomDefine tag r h gs p => hostTag tag && inByte r && inByte h && inByte gs.length && gs.all inByte && inByte p
  | .roomRemove tag r => hostTag tag && inByte r
  | .layoutSettle tag t => hostTag tag && inByte t
  | .layoutRead tag h => hostTag tag && inByte h
  | .wallHoldExpiry w => isWall w
  | .lineLevelChange l _ => isLine l
  | .filterExpiry l => isLine l
  | .senseConfig tag l m x y z => hostTag tag && inByte l && inByte m && inByte x && inByte y && inByte z
  | .senseAck tag ls => hostTag tag && inByte ls.length && ls.all inByte
  | .senseRead tag => hostTag tag
  | .plateOpen tag i z _ => hostTag tag && inByte i && inFourBytes z
  | .plateData tag i o bs => hostTag tag && inByte i && inFourBytes o && bs.length ≤ 1015
  | .plateClose tag i => hostTag tag && inByte i
  | .plateDelete tag i => hostTag tag && inByte i
  | .plateList tag b n => hostTag tag && inByte b && inByte n
  | .poolWatch tag n => hostTag tag && inTwoBytes n
  | .settingsPlates tag x => hostTag tag && x.fits
  | .signDefine tag t p f => hostTag tag && inByte t && inByte p && f.fits
  | .signRemove tag t p => hostTag tag && inByte t && inByte p
  | .signRead tag t p => hostTag tag && inByte t && inByte p
  | .viewExpiry t p => isTrunk t && isPosition p
  | .creditAccrual => true
  | .overdueDeadlineExpiry t p => isTrunk t && isPosition p
  | .trunkStart tag t v => hostTag tag && inByte t && inByte v
  | .trunkStop tag t => hostTag tag && inByte t
  | .stopTakesEffect t e _ => isTrunk t && e.fits
  | .trunkCount tag t => hostTag tag && inByte t
  | .rewalkBegin t e _ => isTrunk t && e.fits
  | .trunkCheck tag t => hostTag tag && inByte t
  | .countReply t _ _ => isTrunk t
  | .queryReply t _ _ => isTrunk t
  | .loadAck t _ _ => isTrunk t
  | .showAnswer t _ _ => isTrunk t
  | .callReply t _ _ => isTrunk t
  | .trunkReplyTimeout t _ => isTrunk t
  | .strayTrunkFrame t _ => isTrunk t
  | .attentionLineRise t l => isTrunk t && 4 ≤ l && l ≤ 7
  | .probeIntervalExpiry t => isTrunk t
  | .probeEnd t r _ => isTrunk t && r.fits
  | .recoveryTimerExpiry t p => isTrunk t && isPosition p
  | .wallSample => true
  | .graceEnd _ => true
  | .healthArm tag c => hostTag tag && inByte c
  | .healthClear tag k a b m => hostTag tag && inByte k && inByte a && inByte b && inTwoBytes m
  | .healthSelect tag c v => hostTag tag && inByte c && inByte v
  | .healthWindow tag k w => hostTag tag && inByte k && inByte w
  | .healthRead tag m x y z => hostTag tag && inByte m && inByte x && inByte y && inByte z
  | .resetPinActive => true
  | .powerAbsent => true

end Sys2Proof
end

