-- ==== Sys2Proof/Certificates/Slice0/Obligations.lean ====
section
/-! DEFINITION. The statements about the model. A request is stated with a tag the host may choose and a settled state
(`Settled`, kept by every step); its conclusion gives the whole state it leaves, the reply standing in `answered`, whose
meaning is `RepliesAndArbitration`. -/

section

open Sys2Proof Sys2Proof.Machine

/-! ### The part as a whole -/

/-- The command at the front of the queue is carried out on the state with the queue's rest. That 1 ms passes while nothing
waits is the model's choice (log 5). -/
def Obligations.StepTakesTheFrontCommand : Prop :=
  (∀ c rest s, s.pending = c :: rest → step s = exec c { s with pending := rest }) ∧
  ∀ s : State, s.pending = [] → step s = .next { s with now := s.now + 1 }

/-- The state after reset meets every law that the other statements show every step to keep. -/
def Obligations.ResetMeetsTheLaws : Prop :=
  Settled State.reset ∧ LinkLawful State.reset ∧ ClockLawful State.reset ∧ TimetableLawful State.reset ∧
  LayoutLawful State.reset ∧ LampsLawful State.reset ∧ PoolLawful State.reset ∧ ReferencesLawful State.reset ∧
  QueueLawful State.reset ∧ CreditLawful State.reset ∧ HealthLawful State.reset

/-- What a full reset leaves, block by block (R1, R16, R18, R43, R64, R77, R95, R125, R154, R179, R200). Of its clauses
these are the model's choices: a reset whose occasion does not exist, carried out all the same (log 1), READY already on the
line (log 7), the kept levels of input and attention lines (log 9, 10), which cause ends the holding of the pin and the
absence of power, and that READY waits while either stands (log 11), the timebase at 0 and the kept queue of waiting
commands (log 31), and that State.reset is the reset of power-on with both straps low (log 8, 30). -/
def Obligations.FullResetValues : Prop :=
  (∀ cause a b s, risingKeys s.sense.lines = true → risingKeys s.trunks = true →
    let held := s.pins.resetHeld && decide (cause ≠ .pin)
    let absent := s.pins.powerAbsent && decide (cause ≠ .powerOn)
    let waits := held || absent
    ∃ t, exec (.fullReset cause a b) s = .next t ∧
      t.link =
        { bitRate := (match a, b with
            | .low, .low => 57600
            | .low, .high => 115200
            | .high, .low => 230400
            | .high, .high => 460800)
          receiver := ⟨.hunt, [], 0⟩, queue := [], service := []
          line := if waits then .idle else .notice (.ready cause), lastSent := .none
          notices := if waits then [.ready cause] else [], overflow := false, readySent := false } ∧
      t.pins = ⟨held, absent, a, b, s.pins.restarts⟩ ∧ t.now = 0 ∧ t.nextSample = 1000 ∧ t.nextAccrual = 60000 ∧ t.outbox = [] ∧
      t.pending = s.pending ∧ t.clock = ⟨false, 0, 0, 0, none⟩ ∧ t.table = ⟨[], 1, []⟩ ∧ t.layout = ⟨[], [], [], 8⟩ ∧
      t.sense.doors = [] ∧ t.sense.reconfiguring = [] ∧ t.sense.mismatch = [] ∧
      (∀ l, lineOf t l = ⟨(lineOf s l).input, .off⟩) ∧
      t.plates = ⟨[], [], 2048, none, ⟨0, 0, 0, 0, 0, 0, 0⟩⟩ ∧ t.resolver = ⟨[], [], []⟩ ∧ t.dispatcher = ⟨[], 0⟩ ∧
      (∀ n, trunkOf t n =
        ⟨.off, false, false, false, 0, [], 0, none, none, false, none, [], (trunkOf s n).attention, false⟩) ∧
      t.health = ⟨[], [], ⟨8, 0, []⟩, [], 8, 4, .disarmed, .disarmed, .disarmed, [], false⟩) ∧
  exec (.fullReset .powerOn .low .low) State.reset = .next State.reset

/-! ### Link Interface -/

/-- R201: the register, its shifts, the two digests the rule gives, and what each of the four uses covers. -/
def Obligations.DigestRule : Prop :=
  digest [] = 0xFFFF ∧ digest [0x31, 0x32, 0x33, 0x34, 0x35, 0x36, 0x37, 0x38, 0x39] = 0x29B1 ∧
  (∀ bs b, digest (bs ++ [b]) =
    (List.range 8).foldl
      (fun r _ => if r.msb then (r <<< 1) ^^^ (0x1021 : Digest) else r <<< 1)
      (digest bs ^^^ (b.zeroExtend 16 <<< 8))) ∧
  (∀ kind tag payload,
    let covered := u16 (payload.length + 2) ++ kind :: tag :: payload
    linkFrame kind tag payload = 0xA5 :: covered ++ digestBytes (digest covered)) ∧
  (∀ position kind body,
    let covered := u8 position ++ u8 kind ++ u16 body.length ++ body
    trunkFrame position kind body = covered ++ digestBytes (digest covered)) ∧
  (∀ s p, (content s p).length = p.size ∧ ∀ i, i < p.size → (content s p)[i]? = some (contentByte s p i)) ∧
  ∀ c, compositionDigest c = digest (encodeComposition c) ∧
    (c.lines.length ≤ 4 → c.starts.length ≤ 5 → (encodeComposition c).length = 52)

/-- R14: IDENTIFY's payload, the same in every state. -/
def Obligations.IdentifyReports : Prop :=
  ∀ tag s, tag ≠ 0 → Settled s →
    exec (.identify tag) s = .next (answered tag
      (ok ([0x4B, 0x19, 0x1A, 0xB8, 0x41] ++
        [12, 40, 32, 96, 1024, 16, 255, 2048, 256, 65536, 768, 4, 30, 120, 8, 6, 8, 4, 24, 4, 1024, 32].flatMap u32))
      [] s)

/-- R15: STATUS's snapshot; forming the reply clears the overflow flag. That the plate count and the waiting requests take one
byte each is the model's choice (log 19). -/
def Obligations.StatusReports : Prop :=
  ∀ tag s, tag ≠ 0 → Settled s →
    exec (.status tag) s = .next (answered tag
      (ok (flag s.clock.isSet ++ u16 s.table.entries.length ++ u16 s.plates.freeCount ++ u8 s.plates.plates.length ++
        u8 (trunkStateCode (trunkOf s 1).state) ++ u8 (trunkStateCode (trunkOf s 2).state) ++
        u8 (trunkStateCode (trunkOf s 3).state) ++ u8 (trunkStateCode (trunkOf s 4).state) ++ flag s.health.summary ++
        u8 s.link.queue.length ++ flag s.link.overflow))
      [] { s with link := { s.link with overflow := false } })

/-- A reply carries its tag, status, header flags and payload (R9), touches the link alone, and goes on an idle line unless
the last frame was a reply and a notice waits (R13). A notice joins the tail of the notice queue while fewer than 32 wait
and is lost with the overflow flag set otherwise; on an idle line the transmitter then takes the oldest notice, or a ready
reply that is due first (R12, R13). The notices of an event join one by one in their order, at the end of the command, when
idle trunks have decided (log 15, 16). On the line a notice is a frame of its KIND with tag 0 and its payload (R3, spec/10
Notices). -/
def Obligations.RepliesAndArbitration : Prop :=
  (∀ (l : Link) n, l.line = .notice n →
    let sends := fun (kind : Byte) (payload : List Byte) => frameBytes l = linkFrame kind 0 payload
    (∀ c, n = .ready c → sends 0xC0 [match c with
      | .powerOn => 1
      | .pin => 2
      | .restart => 3]) ∧
    (∀ tag, n = .linkDropped tag → sends 0xC1 [tag]) ∧
    (∀ h w v, n = .wallChange h w v → sends 0xC2 (u8 h ++ u8 w ++ [match v with
      | .unknown => 0
      | .opened => 1
      | .closed => 2])) ∧
    (∀ i active, n = .senseEdge i active → sends 0xC3 (u8 i ++ [if active then 1 else 0])) ∧
    (∀ o c live held k, n = .health o c live held k →
      let object : List Byte := match o with
        | .panel t p => [1] ++ u8 t ++ u8 p
        | .trunk t => [2, 0] ++ u8 t
        | .wall w => [3, 0] ++ u8 w
        | .hall h => [4, 0] ++ u8 h
      let code : Byte := match c with
        | .silent => 1 | .overdue => 2 | .mismatch => 3 | .panelFault => 4 | .supply => 5
        | .lineShort => 6 | .lineOpen => 7 | .chainChanged => 8 | .wallConflict => 9 | .layoutMismatch => 10
      sends 0xC4 (object ++ [code, (if live then 1 else 0) + (if held then 2 else 0)] ++ u8 k)) ∧
    (∀ free, n = .poolAvailable free → sends 0xC5 (u16 free)) ∧
    (∀ t chain, n = .countDone t chain →
      sends 0xC6 (u8 t ++ u8 chain.length ++ chain.flatMap fun e => [e.kind, e.slotCount, e.keyFitted])) ∧
    ∀ t r, n = .probeDone t r → sends 0xC7 (u8 t ++ match r with
      | .ok => [0, 0]
      | .short => [1, 0]
      | .openAt k => [2] ++ u8 k)) ∧
  (∀ n s,
    let joined : Link :=
      if s.link.notices.length < 32 then { s.link with notices := s.link.notices ++ [n] } else { s.link with overflow := true }
    (s.link.line ≠ .idle ∨ silenced s = true → eventNotice n s = { s with link := joined }) ∧
    (silenced s = false → s.link.line = .idle → (s.link.service = [] ∨ s.link.lastSent = .reply) →
      ∀ m rest, joined.notices = m :: rest →
        eventNotice n s = { s with link := { joined with line := .notice m, notices := rest } }) ∧
    (silenced s = false → s.link.line = .idle → s.link.service ≠ [] → s.link.lastSent ≠ .reply →
      eventNotice n s = { s with link := { joined with line := .reply } })) ∧
  (∀ s, linkAfter [] s = s.link ∧ ∀ n ns, linkAfter (n :: ns) s = linkAfter ns (eventNotice n s)) ∧
  (∀ s,
    let u := settleTrunk 4 (settleTrunk 3 (settleTrunk 2 (settleTrunk 1 s)))
    flush s = { u with outbox := [], link := linkAfter u.outbox u }) ∧
  ∀ tag a after s,
    let r : Service := ⟨⟨tag, a.status, s.health.summary, s.clock.isSet, a.payload⟩, after, a.resetAfter⟩
    let served : Link := { s.link with service := s.link.service ++ [r] }
    (s.link.line ≠ .idle ∨ silenced s = true → answered tag a after s = { s with link := served }) ∧
    (silenced s = false → s.link.line = .idle → (s.link.notices = [] ∨ s.link.lastSent ≠ .reply) →
      answered tag a after s = { s with link := { served with line := .reply } }) ∧
    (silenced s = false → s.link.line = .idle → s.link.lastSent = .reply → ∀ n rest, s.link.notices = n :: rest →
      answered tag a after s = { s with link := { served with line := .notice n, notices := rest } }) ∧
    (∀ rest, s.link.line = .reply → s.link.service = r :: rest →
      frameBytes s.link = linkFrame 0x80 tag
        (u8 (statusCode a.status) ++ u8 ((if r.reply.summary then 1 else 0) + (if r.reply.clockSet then 2 else 0)) ++
          a.payload))

/-- What the end of a transmitted frame does: a notice makes way for a ready reply, else for the next notice (R13); a
reply's own notices join as it leaves, up to 32, the rest lost with the overflow flag (R12); the reply to RESTART FULL ends
in a full reset with cause RESTART that samples the straps, whatever levels they show then (R1, R16, R17). These are the
model's choices: on an idle line the command changes nothing (log 1), the levels the straps show are a free value, a fresh
one for each such reset (log 8), and a request's notices wait behind its reply (log 16). -/
def Obligations.FrameLeavesTheLine : Prop :=
  ∀ s, Settled s →
    (s.link.line = .idle → exec .frameTransmitted s = .next s) ∧
    (∀ n, silenced s = false → s.link.line = .notice n →
      let sent : Link :=
        { s.link with
          lastSent := .notice
          readySent := (match n with
            | .ready _ => true
            | _ => s.link.readySent) }
      (s.link.service ≠ [] → exec .frameTransmitted s = .next { s with link := { sent with line := .reply } }) ∧
      (s.link.service = [] → s.link.notices = [] →
        exec .frameTransmitted s = .next { s with link := { sent with line := .idle } }) ∧
      (s.link.service = [] → ∀ m rest, s.link.notices = m :: rest →
        exec .frameTransmitted s = .next { s with link := { sent with line := .notice m, notices := rest } })) ∧
    (∀ d rest, silenced s = false → s.link.line = .reply → s.link.service = d :: rest → d.resetAfter = false →
      s.link.notices.length ≤ 32 →
      let joined := (s.link.notices ++ d.after).take 32
      let sent : Link :=
        { s.link with
          lastSent := .reply
          service := rest
          overflow := s.link.overflow || decide (32 < s.link.notices.length + d.after.length) }
      (joined = [] → exec .frameTransmitted s =
        .next { s with link := { sent with notices := [], line := if rest = [] then .idle else .reply } }) ∧
      (∀ m ms, joined = m :: ms →
        exec .frameTransmitted s = .next { s with link := { sent with notices := ms, line := .notice m } })) ∧
    (∀ d rest, s.link.line = .reply → s.link.service = d :: rest → d.resetAfter = true →
      let level := fun (pin : Nat) => if Config.strapHigh pin s.pins.restarts then Level.high else Level.low
      exec .frameTransmitted s =
        exec (.fullReset .restart (level 1) (level 0)) { s with pins := { s.pins with restarts := s.pins.restarts + 1 } }) ∧
    (∀ tag, tag ≠ 0 → exec (.restartFull tag) s = .next (answered tag ⟨.ok, [1], true⟩ [] s))

/-- The receiver's table, byte by byte (R4), the two ends of an abandoned frame (R5), and the silenced part (R16). That a
silenced part cuts its frame and ignores the line is read from R16 by the model (log 11). -/
def Obligations.ReceiverAdvances : Prop :=
  ∀ s, Settled s →
    (silenced s = false →
      (∀ b, s.link.receiver.state = .hunt → b ≠ 0xA5 → exec (.byteReceived b) s = .next s) ∧
      (s.link.receiver.state = .hunt →
        exec (.byteReceived 0xA5) s = .next { s with link := { s.link with receiver := ⟨.length, [], 2⟩ } }) ∧
      (∀ b, s.link.receiver.state = .length → s.link.receiver.held = [] →
        exec (.byteReceived b) s = .next { s with link := { s.link with receiver := ⟨.length, [b], 1⟩ } }) ∧
      (∀ hi b, s.link.receiver.state = .length → s.link.receiver.held = [hi] →
        exec (.byteReceived b) s = .next
          { s with
            link :=
              { s.link with
                receiver :=
                  if 2 ≤ hi.toNat * 256 + b.toNat ∧ hi.toNat * 256 + b.toNat ≤ 1024 then
                    ⟨.body, [hi, b], hi.toNat * 256 + b.toNat⟩
                  else ⟨.hunt, [], 0⟩ } }) ∧
      (∀ b n, s.link.receiver.state = .body → s.link.receiver.expected = n + 2 →
        exec (.byteReceived b) s = .next
          { s with link := { s.link with receiver := ⟨.body, s.link.receiver.held ++ [b], n + 1⟩ } }) ∧
      (∀ b, s.link.receiver.state = .body → s.link.receiver.expected = 1 →
        exec (.byteReceived b) s = .next
          { s with link := { s.link with receiver := ⟨.check, s.link.receiver.held ++ [b], 2⟩ } }) ∧
      (∀ b, s.link.receiver.state = .check → s.link.receiver.expected = 2 →
        exec (.byteReceived b) s = .next
          { s with link := { s.link with receiver := ⟨.check, s.link.receiver.held ++ [b], 1⟩ } }) ∧
      exec .badStopBit s = .next { s with link := { s.link with receiver := ⟨.hunt, [], 0⟩ } } ∧
      exec .receiveGapTimeout s = .next { s with link := { s.link with receiver := ⟨.hunt, [], 0⟩ } }) ∧
    (silenced s = true → (∀ b, exec (.byteReceived b) s = .next s) ∧ exec .badStopBit s = .next s ∧
      exec .receiveGapTimeout s = .next s) ∧
    exec .resetPinActive s = .next
      { s with pins := { s.pins with resetHeld := true }, link := { s.link with line := .idle } } ∧
    exec .powerAbsent s = .next
      { s with pins := { s.pins with powerAbsent := true }, link := { s.link with line := .idle } }

/-- The last CHECK byte: a frame whose digest differs is discarded without trace (R6); a good one is admitted at the tail
while fewer than 4 wait, and is dropped with LINK_DROPPED otherwise (R7). That the notice joins at the end of the command and
goes on an idle line at once is the model's choice (log 16, 36). -/
def Obligations.CompleteFrameIsJudged : Prop :=
  ∀ s hi lo kind tag payload c1 c0, Settled s → silenced s = false →
    s.link.receiver = ⟨.check, hi :: lo :: kind :: tag :: payload ++ [c1], 1⟩ →
    let heard : State := { s with link := { s.link with receiver := ⟨.hunt, [], 0⟩ } }
    (digest (hi :: lo :: kind :: tag :: payload) ≠ readDigest c1 c0 → exec (.byteReceived c0) s = .next heard) ∧
    (digest (hi :: lo :: kind :: tag :: payload) = readDigest c1 c0 → s.link.queue.length < 4 →
      exec (.byteReceived c0) s = .next
        { heard with link := { heard.link with queue := s.link.queue ++ [⟨kind, tag, payload⟩] } }) ∧
    (digest (hi :: lo :: kind :: tag :: payload) = readDigest c1 c0 → 4 ≤ s.link.queue.length →
      exec (.byteReceived c0) s = .next (eventNotice (.linkDropped tag) heard))

/-- A frame built as R2 and R3 give it, sent byte by byte to a receiver in HUNT, ends in the input queue as the frame it
was, whatever its KIND, TAG and payload (R4, R6, R7). -/
def Obligations.FrameOnTheLineIsReceived : Prop :=
  ∀ kind tag payload rest s, payload.length ≤ 1022 → Settled s → silenced s = false →
    s.link.receiver.state = .hunt → s.link.queue.length < 4 →
    Host.Core.run Sys2Proof.core (linkFrame kind tag payload).length
      { s with pending := (linkFrame kind tag payload).map Instr.byteReceived ++ rest } =
    .next
      { s with
        pending := rest
        link := { s.link with receiver := ⟨.hunt, [], 0⟩, queue := s.link.queue ++ [⟨kind, tag, payload⟩] } }

/-- Every request row's frame, taken from the queue, is screened and read back as that row: TAKE_REQUEST does what the row
does, with every operand at every value its field admits (R8, R203). That a row stands for the owner's handling and that it is
taken, handled and answered in one step are the model's choices (log 2, 3). -/
def Obligations.TakeRequestRunsItsRow : Prop :=
  ∀ i f rest s, i.wellFormed = true → encodeRequest i = some f → s.link.queue = f :: rest → s.link.service = [] →
    s.link.readySent = true →
    exec .takeRequest s = exec i { s with link := { s.link with queue := rest } }

/-- Screening: tag 0 or a KIND that is no request code is UNKNOWN_REQUEST, a request whose length is not the one its layout
and its count fields make is BAD_LENGTH, a RESTART of another scope is OUT_OF_RANGE, and none of them changes any state; no
request is taken while one is in service, before READY has left, or from an empty queue (R8, R203). That such a TAKE_REQUEST
changes nothing is the model's choice (log 1). -/
def Obligations.TakeRequestScreens : Prop :=
  ∀ s, Settled s →
    (s.link.queue = [] ∨ s.link.service ≠ [] ∨ s.link.readySent = false → exec .takeRequest s = .next s) ∧
    ∀ f rest, s.link.queue = f :: rest → s.link.service = [] → s.link.readySent = true →
      let taken : State := { s with link := { s.link with queue := rest } }
      let field := fun (i : Nat) => (f.payload.getD i 0).toNat
      (f.tag = 0 ∨
          f.kind.toNat ∉
            [0x01, 0x02, 0x03, 0x10, 0x11, 0x18, 0x19, 0x1A, 0x20, 0x21, 0x22, 0x23, 0x24, 0x25, 0x26, 0x27, 0x28, 0x30,
             0x31, 0x32, 0x38, 0x39, 0x3A, 0x3B, 0x3C, 0x3D, 0x3E, 0x40, 0x41, 0x42, 0x48, 0x49, 0x4A, 0x4B, 0x50, 0x51,
             0x52, 0x53, 0x54] →
        exec .takeRequest s = .next (answered f.tag (refusal .unknownRequest) [] taken)) ∧
      (f.tag ≠ 0 → ∀ n,
        (f.kind.toNat, n) ∈
          [(0x01, 0), (0x02, 0), (0x03, 1), (0x10, 5), (0x11, 0), (0x19, 4), (0x1A, 8), (0x21, 1), (0x22, 6), (0x23, 1),
           (0x24, 2), (0x26, 1), (0x27, 1), (0x28, 1), (0x30, 5), (0x32, 0), (0x38, 7), (0x3A, 1), (0x3B, 1), (0x3C, 2),
           (0x3D, 2), (0x3E, 7), (0x41, 2), (0x42, 2), (0x48, 2), (0x49, 1), (0x4A, 1), (0x4B, 1), (0x50, 1), (0x51, 5),
           (0x52, 2), (0x53, 2), (0x54, 4)] →
        f.payload.length ≠ n →
        exec .takeRequest s = .next (answered f.tag (refusal .badLength) [] taken)) ∧
      (f.tag ≠ 0 → ∀ n,
        (f.kind.toNat, n) ∈
          [(0x20, 3 + field 1), (0x25, 4 + field 2), (0x31, 1 + field 0), (0x39, 7 + field 5 * 256 + field 6),
           (0x40, if field 2 = 2 then 4 + 2 * field 3 else 5)] →
        f.payload.length ≠ n →
        exec .takeRequest s = .next (answered f.tag (refusal .badLength) [] taken)) ∧
      (f.tag ≠ 0 → f.kind = 0x18 → f.payload = [] ∨ operationsFit (field 0) (f.payload.drop 1) = false →
        exec .takeRequest s = .next (answered f.tag (refusal .badLength) [] taken)) ∧
      (f.tag ≠ 0 → f.kind = 0x03 → f.payload.length = 1 → field 0 ≠ 1 → field 0 ≠ 2 →
        exec .takeRequest s = .next (answered f.tag (refusal .outOfRange) [] taken))

/-- Every step keeps the bounds of the link's queues and never lets the transmitter idle while a frame is ready (R7, R12,
R13). -/
def Obligations.LinkLawfulKept : Prop := ∀ s t, LinkLawful s → step s = .next t → LinkLawful t

/-- Every step leaves no notice behind inside the part and no trunk told to decide: the model's own form (log 15, 16). -/
def Obligations.SettledKept : Prop := ∀ s t, Settled s → step s = .next t → Settled t

/-! ### Venue Clock and Timetable -/

/-- CLOCK_SET: the reading, SET, a fresh interval, one minute event: the purge of R38 with its references, every sign resolved
and every defined hall's mismatch value evaluated, a LAYOUT_MISMATCH that rises giving its notice behind the reply (R21, R23,
R39, R123, R192). Out of range it is refused and nothing changes. That the purge comes before
the one resolution is the model's choice (log 14). -/
def Obligations.ClockSetRaisesAMinuteEvent : Prop :=
  ∀ tag d m sec s, tag ≠ 0 → Settled s →
    (d ≤ 65535 → m ≤ 1439 → sec ≤ 59 →
      ∃ after u, exec (.clockSet tag d m sec) s = .next (answered tag (ok (u16 d ++ u16 m ++ u8 sec)) after u) ∧
        UpstreamKept
          { s with
            clock := ⟨true, d, m, sec, some (s.now + 1000)⟩
            table := { s.table with entries := u.table.entries } } u ∧
        List.Sublist u.table.entries s.table.entries ∧
        (∀ e, e ∈ u.table.entries ↔ e ∈ s.table.entries ∧ SurvivesPurge s (d * 1440 + m) e) ∧
        MinuteTaken after s u) ∧
    (65535 < d ∨ 1439 < m ∨ 59 < sec →
      exec (.clockSet tag d m sec) s = .next (answered tag (refusal .outOfRange) [] s))

/-- The end of an interval: the second advances, the limit holds, and a turn of the minute raises a minute event (R19, R20,
R23, R38, R123). That an end without an interval changes nothing (log 1), that the timebase stands at the end of the interval
at least (log 4) and that the purge comes before the one resolution (log 14) are the model's choices. -/
def Obligations.IntervalEndAdvancesTheClock : Prop :=
  ∀ s, Settled s →
    (s.clock.intervalEnd = none → exec .clockIntervalEnd s = .next s) ∧
    ∀ e, s.clock.intervalEnd = some e →
      (s.clock.second < 59 →
        exec .clockIntervalEnd s = .next
          { s with
            now := max s.now e
            clock := { s.clock with second := s.clock.second + 1, intervalEnd := some (e + 1000) } }) ∧
      (s.clock.day = 65535 → s.clock.minute = 1439 → s.clock.second = 59 →
        exec .clockIntervalEnd s = .next
          { s with now := max s.now e, clock := { s.clock with intervalEnd := some (e + 1000) } }) ∧
      (s.clock.second = 59 → s.clock.minute < 1439 ∨ (s.clock.minute = 1439 ∧ s.clock.day < 65535) →
        let day := if s.clock.minute < 1439 then s.clock.day else s.clock.day + 1
        let minute := if s.clock.minute < 1439 then s.clock.minute + 1 else 0
        ∃ ns t, exec .clockIntervalEnd s = .next t ∧ t.link = linkAfter ns s ∧ MinuteTaken ns s t ∧
          UpstreamKept
            { s with
              now := max s.now e
              link := t.link
              clock := ⟨s.clock.isSet, day, minute, 0, some (e + 1000)⟩
              table := { s.table with entries := t.table.entries } } t ∧
          List.Sublist t.table.entries s.table.entries ∧
          (∀ x, x ∈ t.table.entries ↔ x ∈ s.table.entries ∧ SurvivesPurge s (day * 1440 + minute) x))

/-- R22: CLOCK_READ's payload. -/
def Obligations.ClockReadReports : Prop :=
  ∀ tag s, tag ≠ 0 → Settled s →
    exec (.clockRead tag) s = .next (answered tag
      (ok (if s.clock.isSet then
        [1] ++ u16 s.clock.day ++ u16 s.clock.minute ++ u8 s.clock.second ++ u32 (s.clock.day * 1440 + s.clock.minute) ++
          [if s.clock.day = 65535 ∧ s.clock.minute = 1439 ∧ s.clock.second = 59 then 1 else 0]
      else [0, 0, 0, 0, 0, 0, 0, 0, 0, 0, 0])) [] s)

/-- Every step keeps the reading in its ranges, an UNSET clock at 0 without an interval and a SET one with it (R18–R21). -/
def Obligations.ClockLawfulKept : Prop := ∀ s t, ClockLawful s → step s = .next t → ClockLawful t

/-- ADD (R29, R36): the session enters the table, its plates gain their references, and the commit reaches the Resolver: every
sign on a segment of the room definition is resolved and no other, and its hall's mismatch value evaluated, with its notice
(R37, R102, R123, R192). -/
def Obligations.TtApplyAdds : Prop :=
  ∀ tag n r b e k m p s, tag ≠ 0 → Settled s → 1 ≤ n → n ≤ 65535 → 1 ≤ r → r ≤ 96 →
    isListed s.layout.rooms r = true → b < e → e ≤ b + 1440 → e ≤ 94371839 → p ≤ 1 →
    (∀ x ∈ s.table.entries, sessionNumber x ≠ some n) → (k = 0 ∨ isReady s k = true) → (m = 0 ∨ isReady s m = true) →
    (∀ x ∈ s.table.entries, ∀ q, IsScheduledAs x q → ShareSegment s x.room r → x.stop ≤ b ∨ e ≤ x.start) →
    s.table.entries.length < 1024 →
    ∃ after u, exec (.ttApply tag [.add n r b e k m p]) s =
        .next (answered tag (ok (u16 (s.table.entries.length + 1))) after u) ∧
      List.Perm u.table.entries (⟨.session n false, r, b, e, k, m, p == 1⟩ :: s.table.entries) ∧
      UpstreamKept { s with table := { s.table with entries := u.table.entries } } u ∧
      (∀ id q, plateAt s id = some q → ∃ q', plateAt u id = some q' ∧
        q'.timetableRefs = q.timetableRefs + (if k = id then 1 else 0) + (if m = id then 1 else 0)) ∧
      ResolverHears (signNames fun q => (roomSegments s r).contains q)
        (fun h => (lookup s.layout.rooms r).any fun x => x.hall == h) after s u

/-- AMEND (R30, R36, R37): the present fields replace the session's, the absent ones stay; the overlap law is checked when
the interval is named. The plates named no longer lose their references and the new ones gain theirs, and the room
definitions whose entries changed are touched; that an AMEND which changes nothing touches nothing is the model's reading
(log 37). -/
def Obligations.TtApplyAmends : Prop :=
  ∀ tag n b e k m p s x, tag ≠ 0 → Settled s → TimetableLawful s → x ∈ s.table.entries → IsScheduledAs x n →
    1 ≤ n → n ≤ 65535 →
    let new : Entry :=
      { x with
        start := b.getD x.start
        stop := e.getD x.stop
        title := k.getD x.title
        banner := m.getD x.banner
        priv := (match p with
          | some v => v == 1
          | none => x.priv) }
    IntervalLawful new → (∀ v, p = some v → v ≤ 1) →
    (∀ v, k = some v → v = 0 ∨ isReady s v = true) → (∀ v, m = some v → v = 0 ∨ isReady s v = true) →
    (∀ y ∈ s.table.entries, ∀ q, IsScheduledAs y q → q ≠ n → ShareSegment s y.room x.room →
      y.stop ≤ new.start ∨ new.stop ≤ y.start) →
    ∃ after u, exec (.ttApply tag [.amend n b e k m p]) s =
        .next (answered tag (ok (u16 s.table.entries.length)) after u) ∧
      List.Perm u.table.entries (new :: s.table.entries.filter fun y => sessionNumber y != some n) ∧
      UpstreamKept { s with table := { s.table with entries := u.table.entries } } u ∧ CommitTaken after s u ∧
      ∀ id q, plateAt s id = some q → ∃ q', plateAt u id = some q' ∧
        q'.timetableRefs = q.timetableRefs + referencesHeld [new] id - referencesHeld [x] id

/-- TT_APPLY as a whole (R28): each operation is applied to the working copy the ones before it left; the first that fails
ends the request, its status and 1-based index the reply, and nothing else changes; where none fails the copy becomes the
table, the references and the touched room definitions follow (R36, R37), and the reply is OK, or ADJUSTED with the indexes.
A count outside 1–16 is OUT_OF_RANGE with index 0. Then each operation's checks in their order, with their statuses
(R29–R35), and what an operation that passes does: to a working copy what it does, alone, to a table. That a PRIVATE of an
operation lies in 0–1 is the model's choice (log 18), and that what operations undo is not touched is its reading (log 37).
-/
def Obligations.TtApplyFailsWhole : Prop :=
  (∀ tag s, tag ≠ 0 → Settled s →
    (∀ before bad behind w adj status, (before ++ bad :: behind).length ≤ 16 →
      applyOps s 1 before ⟨s.table.entries, s.table.nextCreation⟩ [] = .done w adj → applyOp s w bad = .fails status →
      exec (.ttApply tag (before ++ bad :: behind)) s =
        .next (answered tag ⟨status, u8 (before.length + 1), false⟩ [] s)) ∧
    (∀ ops w adj, 1 ≤ ops.length → ops.length ≤ 16 →
      applyOps s 1 ops ⟨s.table.entries, s.table.nextCreation⟩ [] = .done w adj →
      ∃ after u, exec (.ttApply tag ops) s =
          .next (answered tag
            (if adj = [] then ok (u16 w.entries.length)
            else adjusted (u16 w.entries.length ++ u8 adj.length ++ adj.flatMap u8)) after u) ∧
        u.table = { s.table with entries := w.entries, nextCreation := w.nextCreation } ∧
        UpstreamKept { s with table := u.table } u ∧ CommitTaken after s u) ∧
    (∀ w op next adj, applyOp s w op = .done next adj →
      let copied : State := { s with table := { s.table with entries := w.entries, nextCreation := w.nextCreation } }
      ∃ a after u, exec (.ttApply tag [op]) copied = .next (answered tag a after u) ∧
        a.status = (if adj = true then .adjusted else .ok) ∧
        u.table = { s.table with entries := next.entries, nextCreation := next.nextCreation }) ∧
    ∀ ops, ops.length = 0 ∨ 16 < ops.length →
      exec (.ttApply tag ops) s = .next (answered tag ⟨.outOfRange, [0], false⟩ [] s)) ∧
  (∀ s first w adj,
    applyOps s first [] w adj = .done w adj ∧
    ∀ op ops,
      (∀ status, applyOp s w op = .fails status → applyOps s first (op :: ops) w adj = .fails status first) ∧
      ∀ next moved, applyOp s w op = .done next moved →
        applyOps s first (op :: ops) w adj =
          applyOps s (first + 1) ops next (if moved = true then adj ++ [first] else adj)) ∧
  ∀ s w, (w.entries.filterMap sessionNumber).Nodup →
    let badSession := fun (n : Nat) => n = 0 ∨ 65535 < n
    let badRoom := fun (r : Nat) => r = 0 ∨ 96 < r
    let badMinute := fun (m : Option Nat) => ∃ v, m = some v ∧ 94371839 < v
    let absent := fun (n : Nat) => ∀ x ∈ w.entries, sessionNumber x ≠ some n
    let isCancelled := fun (n : Nat) => ∃ x ∈ w.entries, x.what = .session n true
    let scheduled := fun (n : Nat) (f : Entry → Prop) => ∃ x ∈ w.entries, IsScheduledAs x n ∧ f x
    let noInterval := fun (b e : Nat) => e ≤ b ∨ b + 1440 < e
    (∀ n r b e k m p, OperationChecked s w (.add n r b e k m p)
      [(badSession n ∨ badRoom r ∨ 94371839 < b ∨ 94371839 < e ∨ noInterval b e ∨ 1 < p, .outOfRange),
       (¬ absent n, .exists),
       (isListed s.layout.rooms r = false ∨ NamesNoPlate s k ∨ NamesNoPlate s m, .notFound),
       (Overlaps s w.entries n r b e, .overlap),
       (1024 ≤ w.entries.length, .full)]) ∧
    (∀ n b e k m p, OperationChecked s w (.amend n b e k m p)
      [(badSession n ∨ badMinute b ∨ badMinute e ∨ (∃ v, p = some v ∧ 1 < v), .outOfRange),
       (absent n, .notFound),
       (isCancelled n, .wrongMode),
       (scheduled n fun x => noInterval (b.getD x.start) (e.getD x.stop), .outOfRange),
       ((∃ v, k = some v ∧ NamesNoPlate s v) ∨ ∃ v, m = some v ∧ NamesNoPlate s v, .notFound),
       ((b ≠ none ∨ e ≠ none) ∧ scheduled n fun x => Overlaps s w.entries n x.room (b.getD x.start) (e.getD x.stop),
        .overlap)]) ∧
    (∀ n r b e, OperationChecked s w (.move n r b e)
      [(badSession n ∨ badRoom r ∨ badMinute b ∨ badMinute e, .outOfRange),
       (absent n, .notFound),
       (isCancelled n, .wrongMode),
       (scheduled n fun x => x.room = r ∨ noInterval (b.getD x.start) (e.getD x.stop), .outOfRange),
       (isListed s.layout.rooms r = false, .notFound),
       (scheduled n fun x => Overlaps s w.entries n r (b.getD x.start) (e.getD x.stop), .overlap)]) ∧
    (∀ n, OperationChecked s w (.cancel n)
      [(badSession n, .outOfRange), (absent n, .notFound), (isCancelled n, .wrongMode)]) ∧
    (∀ n, OperationChecked s w (.remove n) [(badSession n, .outOfRange), (absent n, .notFound)]) ∧
    ∀ r b, OperationChecked s w (.dismiss r b)
      [(badRoom r ∨ 94371839 < b, .outOfRange),
       (∀ x ∈ w.entries, ¬ (sessionNumber x = none ∧ x.room = r ∧ x.start = b), .notFound)]

/-- MOVE (R31, R32, R36, R37): the session enters its new room definition, a tombstone it returned to goes, and one is left
behind if the table and the creation numbers have room; without room the move stands and is reported adjusted. The
references follow, one more set for the tombstone made and one less for the one removed; both room definitions are touched.
That the commit touches what differs is the model's reading (log 37). -/
def Obligations.TtApplyMoves : Prop :=
  ∀ tag n r b e s x, tag ≠ 0 → Settled s → TimetableLawful s → x ∈ s.table.entries → IsScheduledAs x n →
    1 ≤ n → n ≤ 65535 → 1 ≤ r → r ≤ 96 → isListed s.layout.rooms r = true → x.room ≠ r →
    let moved : Entry := { x with room := r, start := b.getD x.start, stop := e.getD x.stop }
    IntervalLawful moved →
    (∀ y ∈ s.table.entries, ∀ q, IsScheduledAs y q → q ≠ n → ShareSegment s y.room r →
      y.stop ≤ moved.start ∨ moved.stop ≤ y.start) →
    (∀ y, isTombstoneFor r n y = true ↔ y.room = r ∧ IsMovedFor y n) ∧
    let rest := s.table.entries.filter fun y => sessionNumber y != some n && !isTombstoneFor r n y
    (rest.length + 1 < 1024 → s.table.nextCreation ≤ 4294967295 →
      ∃ after u, exec (.ttApply tag [.move n r b e]) s = .next (answered tag (ok (u16 (rest.length + 2))) after u) ∧
        List.Perm u.table.entries (moved :: { x with what := .tombstone s.table.nextCreation (some n) } :: rest) ∧
        UpstreamKept
          { s with
            table := { s.table with entries := u.table.entries, nextCreation := s.table.nextCreation + 1 } } u ∧
        CommitTaken after s u ∧ touches s u r = true ∧ touches s u x.room = true) ∧
    (rest.length + 1 = 1024 ∨ 4294967295 < s.table.nextCreation →
      ∃ after u, exec (.ttApply tag [.move n r b e]) s =
          .next (answered tag (adjusted (u16 (rest.length + 1) ++ [1, 1])) after u) ∧
        List.Perm u.table.entries (moved :: rest) ∧
        UpstreamKept { s with table := { s.table with entries := u.table.entries } } u ∧
        CommitTaken after s u ∧ touches s u r = true ∧ touches s u x.room = true)

/-- CANCEL, REMOVE and DISMISS (R33–R37): the session cancelled in place or gone, the tombstones that pointed to it
CANCELLED with their target absent and every other field kept, the dismissed tombstones gone and nothing else. A CANCEL
releases no reference, the entries that go release theirs, and the room definitions of the entries that changed are touched.
That the commit touches what differs is the model's reading (log 37). -/
def Obligations.TtApplyCancelsRemovesDismisses : Prop :=
  (∀ n y, (¬ IsMovedFor y n → convertTombstone n y = y) ∧
    ∀ c, y.what = .tombstone c (some n) → convertTombstone n y = { y with what := .tombstone c none }) ∧
  (∀ r b y, isTombstoneAt r b y = true ↔ sessionNumber y = none ∧ y.room = r ∧ y.start = b) ∧
  ∀ tag s, tag ≠ 0 → Settled s → TimetableLawful s →
    (∀ n x, 1 ≤ n → n ≤ 65535 → x ∈ s.table.entries → IsScheduledAs x n →
      ∃ after u, exec (.ttApply tag [.cancel n]) s =
          .next (answered tag (ok (u16 s.table.entries.length)) after u) ∧
        List.Perm u.table.entries
          ({ x with what := .session n true } ::
            (s.table.entries.filter fun y => sessionNumber y != some n).map (convertTombstone n)) ∧
        (∀ y ∈ u.table.entries, ¬ IsMovedFor y n) ∧
        UpstreamKept { s with table := { s.table with entries := u.table.entries } } u ∧ CommitTaken after s u ∧
        touches s u x.room = true ∧ (∀ y ∈ s.table.entries, IsMovedFor y n → touches s u y.room = true) ∧
        ∀ id q, plateAt s id = some q → ∃ q', plateAt u id = some q' ∧ q'.timetableRefs = q.timetableRefs) ∧
    (∀ n x, 1 ≤ n → n ≤ 65535 → x ∈ s.table.entries → sessionNumber x = some n →
      ∃ after u, exec (.ttApply tag [.remove n]) s =
          .next (answered tag (ok (u16 (s.table.entries.length - 1))) after u) ∧
        u.table.entries = (s.table.entries.filter fun y => sessionNumber y != some n).map (convertTombstone n) ∧
        (∀ y ∈ u.table.entries, ¬ IsMovedFor y n) ∧
        UpstreamKept { s with table := { s.table with entries := u.table.entries } } u ∧ CommitTaken after s u ∧
        touches s u x.room = true ∧ (∀ y ∈ s.table.entries, IsMovedFor y n → touches s u y.room = true) ∧
        ∀ id q, plateAt s id = some q → ∃ q', plateAt u id = some q' ∧
          q'.timetableRefs = q.timetableRefs - referencesHeld [x] id) ∧
    ∀ r b, 1 ≤ r → r ≤ 96 → b ≤ 94371839 → (∃ x ∈ s.table.entries, isTombstoneAt r b x = true) →
      let kept := s.table.entries.filter fun y => !isTombstoneAt r b y
      ∃ after u, exec (.ttApply tag [.dismiss r b]) s = .next (answered tag (ok (u16 kept.length)) after u) ∧
        u.table.entries = kept ∧ UpstreamKept { s with table := { s.table with entries := kept } } u ∧
        CommitTaken after s u ∧ touches s u r = true

/-- Every step keeps the laws of the table: order, capacity, unique numbers, targets, the overlap law (R25–R27). -/
def Obligations.TimetableLawfulKept : Prop := ∀ s t, TimetableLawful s → step s = .next t → TimetableLawful t

/-- ROOM_TIMING (R41): its checks in order; the record in force, D held to A with ADJUSTED, the signs of the room definition
resolved and no others, and its hall's mismatch value evaluated, with its notice (R102, R123, R192). -/
def Obligations.RoomTimingReplacesTheRecord : Prop :=
  ∀ tag r a d l s, tag ≠ 0 → Settled s →
    RefusedInOrder (.roomTiming tag r a d l) tag s
      [(¬ (1 ≤ r ∧ r ≤ 96 ∧ a ≤ 240 ∧ d ≤ 60 ∧ l ≤ 30), .outOfRange),
       (isListed s.layout.rooms r = false, .notFound)] ∧
    (1 ≤ r → r ≤ 96 → a ≤ 240 → d ≤ 60 → l ≤ 30 → isListed s.layout.rooms r = true →
      ∃ after u, exec (.roomTiming tag r a d l) s =
          .next (answered tag ⟨if a < d then .adjusted else .ok, u8 a ++ u8 (min d a) ++ u8 l, false⟩ after u) ∧
        UpstreamKept { s with table := { s.table with timing := u.table.timing } } u ∧
        lookup u.table.timing r = some ⟨a, min d a, l⟩ ∧
        (∀ q, q ≠ r → lookup u.table.timing q = lookup s.table.timing q) ∧
        ResolverHears (signNames fun q => (roomSegments s r).contains q)
          (fun h => (lookup s.layout.rooms r).any fun x => x.hall == h) after s u)

/-- The six reading requests report and change nothing but the link, and refuse by their checks in order (R42, R63, R76, R93,
R99, R197, R198). The layouts of the records in their payloads, the rounding of elapsed seconds and the bytes without meaning
are the model's choices (log 19, 20, 21, 28). -/
def Obligations.ReadsChangeNothing : Prop :=
  ∀ tag s, tag ≠ 0 → Settled s →
    (∀ r b skip n,
      RefusedInOrder (.ttRead tag r b skip n) tag s
        [(96 < r ∨ 94371839 < b ∨ 1023 < skip ∨ n = 0 ∨ 32 < n, .outOfRange),
         (r ≠ 0 ∧ isListed s.layout.rooms r = false, .notFound)]) ∧
    (∀ r b skip n, r ≤ 96 → b ≤ 94371839 → skip ≤ 1023 → 1 ≤ n → n ≤ 32 →
      (r = 0 ∨ isListed s.layout.rooms r = true) →
      let rest := (s.table.entries.filter fun e => (r == 0 || e.room == r) && decide (b ≤ e.start)).drop skip
      exec (.ttRead tag r b skip n) s = .next (answered tag
        (ok (u8 (rest.take n).length ++ flag (decide (n < rest.length)) ++ (rest.take n).flatMap entryBytes)) [] s)) ∧
    (∀ h, RefusedInOrder (.layoutRead tag h) tag s
      [(12 < h, .outOfRange), (h ≠ 0 ∧ lookup s.layout.halls h = none, .notFound)]) ∧
    exec (.layoutRead tag 0) s = .next (answered tag (ok (layoutReport s)) [] s) ∧
    (∀ h x, 1 ≤ h → h ≤ 12 → lookup s.layout.halls h = some x →
      exec (.layoutRead tag h) s = .next (answered tag (ok (hallReport s h x)) [] s)) ∧
    exec (.senseRead tag) s =
      .next (answered tag (ok ((upTo 24).flatMap fun l => lineBytesOf (lineOf s l))) [] s) ∧
    (∀ b n, b = 0 ∨ 255 < b ∨ n = 0 ∨ 32 < n →
      exec (.plateList tag b n) s = .next (answered tag (refusal .outOfRange) [] s)) ∧
    (∀ b n, 1 ≤ b → b ≤ 255 → 1 ≤ n → n ≤ 32 →
      let rest := s.plates.plates.filter fun e => decide (b ≤ e.1)
      exec (.plateList tag b n) s = .next (answered tag
        (ok (u16 s.plates.freeCount ++ u16 (s.plates.watch.getD 0) ++ settingsBytes s.plates.settings ++
          u8 (rest.take n).length ++ flag (decide (n < rest.length)) ++
          (rest.take n).flatMap fun e => plateBytes e.1 e.2)) [] s)) ∧
    (∀ n p, RefusedInOrder (.signRead tag n p) tag s
      [(n = 0 ∨ 4 < n ∨ 30 < p, .outOfRange), (p ≠ 0 ∧ signAt s (32 * n + p) = none, .notFound)]) ∧
    (∀ n, 1 ≤ n → n ≤ 4 →
      exec (.signRead tag n 0) s =
        .next (answered tag (ok ((upTo 30).flatMap fun q => u8 (roleAt s n q))) [] s)) ∧
    (∀ n p g, 1 ≤ n → n ≤ 4 → 1 ≤ p → p ≤ 30 → signAt s (32 * n + p) = some g →
      exec (.signRead tag n p) s = .next (answered tag (ok (signReport s (32 * n + p) g)) [] s)) ∧
    (∀ mode x y z,
      (mode ≠ 1 ∧ mode ≠ 2) ∨ (mode = 1 ∧ objectOf x y z = none) ∨
        (mode = 2 ∧ (655 < x * 256 + y ∨ z = 0 ∨ 32 < z)) →
      exec (.healthRead tag mode x y z) s = .next (answered tag (refusal .outOfRange) [] s)) ∧
    (∀ x y z o, objectOf x y z = some o →
      exec (.healthRead tag 1 x y z) s =
        .next (answered tag (ok (healthHeader s ++ (conditionsOf o).flatMap (conditionReport s o))) [] s)) ∧
    ∀ x y n, x * 256 + y ≤ 655 → 1 ≤ n → n ≤ 32 →
      let rest := s.health.held.drop (x * 256 + y)
      exec (.healthRead tag 2 x y n) s = .next (answered tag
        (ok (healthHeader s ++ u8 (rest.take n).length ++ (rest.take n).flatMap (heldEntry s) ++
          flag (decide (n < rest.length)))) [] s)

/-! ### Layout Unit -/

/-- HALL_DEFINE (R45, R54, R60): its checks in order; a new hall; the renaming of a hall with the same segments; the
replacement of an unreferenced hall by another set. In each case a formation notice is handed: the signs of the hall are
resolved and its mismatch value evaluated (R102, R123). The reply's bytes are the model's choice (log 19). -/
def Obligations.HallDefineDefines : Prop :=
  ∀ tag h list plate s, tag ≠ 0 → Settled s →
    let segments := sortNumbers list
    RefusedInOrder (.hallDefine tag h list plate) tag s
      [(¬ (1 ≤ h ∧ h ≤ 12 ∧ 1 ≤ list.length ∧ list.length ≤ 6 ∧ list.Nodup ∧ (∀ g ∈ list, 1 ≤ g ∧ g ≤ 40) ∧ plate ≠ 0),
        .outOfRange),
       (∃ g ∈ list, ∃ j, hallOfSegment s g = some j ∧ j ≠ h, .exists),
       (∃ x, lookup s.layout.halls h = some x ∧ x.segments ≠ segments ∧ isReferenced s h = true, .inUse),
       (isReady s plate = false, .notFound)] ∧
    (1 ≤ h → h ≤ 12 → 1 ≤ list.length → list.length ≤ 6 → list.Nodup → (∀ g ∈ list, 1 ≤ g ∧ g ≤ 40) → plate ≠ 0 →
      isReady s plate = true →
      let defines := fun (f : List Component) (old : Nat) (r : Bool) =>
        ∃ after u, exec (.hallDefine tag h list plate) s =
            .next (answered tag (ok (u8 h ++ u8 list.length ++ segments.flatMap u8 ++ u8 plate)) after u) ∧
          lookup u.layout.halls h = some ⟨segments, plate, f, r⟩ ∧
          (∀ j, j ≠ h → lookup u.layout.halls j = lookup s.layout.halls j) ∧
          UpstreamKept { s with layout := { s.layout with halls := u.layout.halls } } u ∧ FormationTaken [h] after s u ∧
          ∀ id p, id ≠ 0 → plateAt s id = some p → ∃ q, plateAt u id = some q ∧
            q.layoutRefs = p.layoutRefs + (if id = plate then 1 else 0) - (if id = old then 1 else 0)
      (lookup s.layout.halls h = none → (∀ g ∈ list, hallOfSegment s g = none) →
        defines (formationOf s segments) 0 false) ∧
      (∀ x, lookup s.layout.halls h = some x → x.segments = segments → (∀ g ∈ list, hallOfSegment s g = some h) →
        defines (formationOf s segments) x.plate x.reconfiguring) ∧
      ∀ x, lookup s.layout.halls h = some x → x.segments ≠ segments → isReferenced s h = false →
        (∀ g ∈ list, ∀ j, hallOfSegment s g = some j → j = h) → defines (formationOf s segments) x.plate false)

/-- HALL_REMOVE, WALL_REMOVE and ROOM_REMOVE (R46, R49, R53, R40, R72): their checks in order, with what makes a hall
referenced (R44); the record goes, its lines return to OFF, its timing goes, its name plate loses a layout reference (R54),
and the others stay. After a WALL_REMOVE that
changes the formation, and after every ROOM_REMOVE, the signs of the hall are resolved and its mismatch value evaluated (R60,
R102, R123). -/
def Obligations.LayoutRemovals : Prop :=
  ∀ tag s, tag ≠ 0 → Settled s →
    (∀ h, isReferenced s h = true ↔
      (∃ e ∈ s.layout.rooms, e.2.hall = h) ∨ (∃ e ∈ s.layout.walls, e.2.hall = h) ∨
        ∃ e ∈ s.resolver.signs, ∃ g, hallOfSegment s g = some h ∧ g ∈ roleSegments e.2.role) ∧
    (∀ h, RefusedInOrder (.hallRemove tag h) tag s
      [(h = 0 ∨ 12 < h, .outOfRange), (lookup s.layout.halls h = none, .notFound), (isReferenced s h = true, .inUse)]) ∧
    (∀ h x, 1 ≤ h → h ≤ 12 → lookup s.layout.halls h = some x → isReferenced s h = false →
      ∃ u, exec (.hallRemove tag h) s = .next (answered tag (ok []) [] u) ∧ lookup u.layout.halls h = none ∧
        (∀ j, j ≠ h → lookup u.layout.halls j = lookup s.layout.halls j) ∧
        (∀ id, id ≠ 0 → plateAt u id = (plateAt s id).map fun p =>
          { p with layoutRefs := p.layoutRefs - (if id = x.plate then 1 else 0) }) ∧
        u = { s with
          layout := { s.layout with halls := u.layout.halls }
          plates := { s.plates with plates := u.plates.plates } }) ∧
    (∀ w, RefusedInOrder (.wallRemove tag w) tag s
      [(w = 0 ∨ 32 < w, .outOfRange), (lookup s.layout.walls w = none, .notFound),
       (∃ x, lookup s.layout.walls w = some x ∧ ∃ e ∈ s.layout.rooms, e.2.hall = x.hall ∧
          connected s (fun _ _ => true) e.2.segments = true ∧ connected s (fun j _ => j != w) e.2.segments = false,
        .inUse)]) ∧
    (∀ w x, 1 ≤ w → w ≤ 32 → lookup s.layout.walls w = some x →
      (∀ e ∈ s.layout.rooms, e.2.hall = x.hall → needsWall s w e.2 = false) →
      ∃ after u, exec (.wallRemove tag w) s = .next (answered tag (ok []) after u) ∧
        lookup u.layout.walls w = none ∧ (∀ j, j ≠ w → lookup u.layout.walls j = lookup s.layout.walls j) ∧
        (∀ c o raw hold, x.source = .sensed c o raw hold →
          lineOf u c = ⟨(lineOf s c).input, .off⟩ ∧ lineOf u o = ⟨(lineOf s o).input, .off⟩ ∧ LinesKept [c, o] s u) ∧
        (x.source = .manual → LinesKept [] s u) ∧ WallsHallRecomputed x.hall s u ∧
        FormationTaken (whereFormationDiffers x.hall s u) after s u ∧
        UpstreamKept
          { s with
            layout := { s.layout with halls := u.layout.halls, walls := u.layout.walls }
            sense := { s.sense with lines := u.sense.lines, reconfiguring := u.sense.reconfiguring } } u) ∧
    (∀ r, RefusedInOrder (.roomRemove tag r) tag s
      [(r = 0 ∨ 96 < r, .outOfRange), (lookup s.layout.rooms r = none, .notFound),
       (∃ e ∈ s.table.entries, e.room = r, .inUse)]) ∧
    ∀ r x, 1 ≤ r → r ≤ 96 → lookup s.layout.rooms r = some x → (∀ e ∈ s.table.entries, e.room ≠ r) →
      ∃ after u, exec (.roomRemove tag r) s = .next (answered tag (ok []) after u) ∧
        lookup u.layout.rooms r = none ∧ (∀ j, j ≠ r → lookup u.layout.rooms j = lookup s.layout.rooms j) ∧
        (∀ j, lookup u.layout.halls j = (lookup s.layout.halls j).map fun y =>
          if j = x.hall then { y with formation := formationOf u y.segments } else y) ∧
        (∀ id p, id ≠ 0 → plateAt s id = some p → ∃ q, plateAt u id = some q ∧
          q.layoutRefs = p.layoutRefs - (if id = x.plate then 1 else 0)) ∧
        FormationTaken [x.hall] after s u ∧ lookup u.table.timing r = none ∧
        (∀ j, j ≠ r → lookup u.table.timing j = lookup s.table.timing j) ∧
        UpstreamKept
          { s with
            layout := { s.layout with halls := u.layout.halls, rooms := u.layout.rooms }
            table := { s.table with timing := u.table.timing } } u

/-- WALL_DEFINE (R48, R61, R68, R72): its checks in order; a SENSED wall starts UNKNOWN, MOVING and without a hold, its
lines enter WALL mode with a 50 ms candidate, its hall is reconfiguring; a MANUAL wall starts at the state given. Where the
formation changes, the signs of the hall are resolved and its mismatch value evaluated (R60, R102, R123). The reply's bytes,
the source coded SENSED 1 and MANUAL 2 among them, and the ignored second source byte of a MANUAL wall are the model's choices
(log 19, 20, 28). -/
def Obligations.WallDefineDefines : Prop :=
  ∀ tag w a b s, tag ≠ 0 → Settled s →
    (∀ source x y, RefusedInOrder (.wallDefine tag w a b source x y) tag s
      [(¬ (1 ≤ w ∧ w ≤ 32 ∧ 1 ≤ a ∧ a ≤ 40 ∧ 1 ≤ b ∧ b ≤ 40 ∧ a ≠ b ∧
          ((source = 1 ∧ 1 ≤ x ∧ x ≤ 24 ∧ 1 ≤ y ∧ y ≤ 24 ∧ x ≠ y) ∨ (source = 2 ∧ (x = 1 ∨ x = 2)))), .outOfRange),
       (isListed s.layout.walls w = true, .exists),
       (hallOfSegment s a = none ∨ hallOfSegment s b = none, .notFound),
       (hallOfSegment s a ≠ hallOfSegment s b, .outOfRange),
       (joined s (fun _ _ => true) a b = true, .exists),
       (source = 1 ∧ ((lineOf s x).mode ≠ .off ∨ (lineOf s y).mode ≠ .off), .inUse)]) ∧
    ∀ h, 1 ≤ w → w ≤ 32 → 1 ≤ a → a ≤ 40 → 1 ≤ b → b ≤ 40 → a ≠ b →
      lookup s.layout.walls w = none → hallOfSegment s a = some h → hallOfSegment s b = some h →
      joined s (fun _ _ => true) a b = false →
      let kept := fun (after : List Notice) (u : State) =>
        FormationTaken (whereFormationDiffers h s u) after s u ∧ WallsHallRecomputed h s u ∧
        (∀ j, j ≠ w → lookup u.layout.walls j = lookup s.layout.walls j) ∧
        UpstreamKept
          { s with
            layout := { s.layout with halls := u.layout.halls, walls := u.layout.walls }
            sense := { s.sense with lines := u.sense.lines, reconfiguring := u.sense.reconfiguring } } u
      (∀ x y, 1 ≤ x → x ≤ 24 → 1 ≤ y → y ≤ 24 → x ≠ y → (lineOf s x).mode = .off → (lineOf s y).mode = .off →
        let wall : Wall := ⟨h, a, b, .sensed x y .moving none, .unknown⟩
        ∃ after u, exec (.wallDefine tag w a b 1 x y) s = .next (answered tag (ok (wallBytes w wall)) after u) ∧
          lookup u.layout.walls w = some wall ∧ kept after u ∧
          (∀ l, l = x ∨ l = y → lineOf u l =
            ⟨(lineOf s l).input, .wall ⟨none, some ((lineOf s l).input, s.now + 50)⟩ w⟩) ∧
          LinesKept [x, y] s u ∧ ∃ z, lookup u.layout.halls h = some z ∧ z.reconfiguring = true) ∧
      (∀ x y v, (x = 1 ∧ v = .opened) ∨ (x = 2 ∧ v = .closed) →
        let wall : Wall := ⟨h, a, b, .manual, v⟩
        ∃ after u, exec (.wallDefine tag w a b 2 x y) s = .next (answered tag (ok (wallBytes w wall)) after u) ∧
          lookup u.layout.walls w = some wall ∧ kept after u ∧ LinesKept [] s u)

/-- A wall settles, by WALL_SET or at the end of a hold (R50, R57, R60): the checks of WALL_SET in order; the settled state,
WALL_CHANGE, the hall's formation recomputed; where it differs, the signs of the hall are resolved, its mismatch value is
evaluated and a rise of LAYOUT_MISMATCH gives its notice (R102, R123, R192). WALL_SET to the state it has changes nothing.
That the timebase stands at the hold's end at least (log 4) and that WALL_CHANGE comes before any HEALTH notice (log 14) are
the model's choices. -/
def Obligations.WallsSettle : Prop :=
  ∀ s, Settled s →
    (∀ tag w code, tag ≠ 0 → RefusedInOrder (.wallSet tag w code) tag s
      [(w = 0 ∨ 32 < w ∨ (code ≠ 1 ∧ code ≠ 2), .outOfRange), (lookup s.layout.walls w = none, .notFound),
       (∃ x c o raw hold, lookup s.layout.walls w = some x ∧ x.source = .sensed c o raw hold, .wrongMode)]) ∧
    ∀ w x, 1 ≤ w → w ≤ 32 → lookup s.layout.walls w = some x →
      let settles := fun (after : List Notice) (u : State) (y : Wall) =>
        FormationTaken (whereFormationDiffers x.hall s u) after s u ∧
        lookup u.layout.walls w = some y ∧ (∀ j, j ≠ w → lookup u.layout.walls j = lookup s.layout.walls j) ∧
        ∀ j, lookup u.layout.halls j = (lookup s.layout.halls j).map fun z =>
          if j = x.hall then { z with formation := formationOf u z.segments } else z
      (∀ tag code v, tag ≠ 0 → x.source = .manual → (code = 1 ∧ v = .opened) ∨ (code = 2 ∧ v = .closed) →
        (x.settled = v → exec (.wallSet tag w code) s = .next (answered tag (ok (u8 code)) [] s)) ∧
        (x.settled ≠ v →
          ∃ after u, exec (.wallSet tag w code) s =
              .next (answered tag (ok (u8 code)) (.wallChange x.hall w v :: after) u) ∧
            settles after u { x with settled := v } ∧
            UpstreamKept { s with layout := { s.layout with halls := u.layout.halls, walls := u.layout.walls } } u)) ∧
      ∀ c o raw hold, x.source = .sensed c o raw (some hold) →
        let v : WallState := if hold.opened then .opened else .closed
        ∃ ns t, exec (.wallHoldExpiry w) s = .next t ∧ t.link = linkAfter (.wallChange x.hall w v :: ns) s ∧
          settles ns t { x with source := .sensed c o raw none, settled := v } ∧
          UpstreamKept
            { s with
              now := max s.now hold.ends
              link := t.link
              layout := { s.layout with halls := t.layout.halls, walls := t.layout.walls } } t

/-- ROOM_DEFINE (R52, R40, R54): its checks in order; a room definition made or replaced: the record, the default timing,
the layout references, and the formations of its hall, and of the hall it leaves, recomputed, the signs of both halls
resolved and their mismatch values evaluated (R60, R102, R123). The reply's bytes are the model's choice (log 19), and so is
that the notices of two halls are taken together (log 14). -/
def Obligations.RoomDefineDefines : Prop :=
  ∀ tag r h list plate s, tag ≠ 0 → Settled s →
    RefusedInOrder (.roomDefine tag r h list plate) tag s
      [(¬ (1 ≤ r ∧ r ≤ 96 ∧ 1 ≤ h ∧ h ≤ 12 ∧ 1 ≤ list.length ∧ list.length ≤ 6 ∧ list.Nodup ∧
          (∀ g ∈ list, 1 ≤ g ∧ g ≤ 40) ∧ plate ≠ 0), .outOfRange),
       (lookup s.layout.halls h = none, .notFound),
       (∃ g ∈ list, ∀ x, lookup s.layout.halls h = some x → g ∉ x.segments, .outOfRange),
       (connected s (fun _ _ => true) (sortNumbers list) = false, .outOfRange),
       (∃ e ∈ s.layout.rooms, e.1 ≠ r ∧ e.2.segments = sortNumbers list, .exists),
       (isListed s.layout.rooms r = true ∧ ∃ e ∈ s.table.entries, e.room = r, .inUse),
       (isReady s plate = false, .notFound)] ∧
    (1 ≤ r → r ≤ 96 → 1 ≤ h → h ≤ 12 → 1 ≤ list.length → list.length ≤ 6 → list.Nodup →
      (∀ g ∈ list, 1 ≤ g ∧ g ≤ 40) → plate ≠ 0 → isReady s plate = true →
      ∀ x, lookup s.layout.halls h = some x → (∀ g ∈ list, g ∈ x.segments) →
      (isListed s.layout.rooms r = true → ∀ e ∈ s.table.entries, e.room ≠ r) →
      connected s (fun _ _ => true) (sortNumbers list) = true →
      (∀ e ∈ s.layout.rooms, e.1 ≠ r → e.2.segments ≠ sortNumbers list) →
      ∃ after u, exec (.roomDefine tag r h list plate) s =
          .next (answered tag
            (ok (u8 r ++ u8 h ++ u8 list.length ++ (sortNumbers list).flatMap u8 ++ u8 plate ++ [60, 15, 5])) after u) ∧
        lookup u.layout.rooms r = some ⟨h, sortNumbers list, plate⟩ ∧
        (∀ j, j ≠ r → lookup u.layout.rooms j = lookup s.layout.rooms j) ∧
        FormationTaken (h :: ((lookup s.layout.rooms r).map fun old => old.hall).toList) after s u ∧
        lookup u.table.timing r = some ⟨60, 15, 5⟩ ∧
        (∀ j, j ≠ r → lookup u.table.timing j = lookup s.table.timing j) ∧
        (∀ j, lookup u.layout.halls j = (lookup s.layout.halls j).map fun y =>
          if j = h ∨ (lookup s.layout.rooms r).map (fun old => old.hall) = some j then
            { y with formation := formationOf u y.segments }
          else y) ∧
        (∀ id p, id ≠ 0 → plateAt s id = some p → ∃ q, plateAt u id = some q ∧
          q.layoutRefs = p.layoutRefs + (if id = plate then 1 else 0) -
            (if (lookup s.layout.rooms r).map (fun old => old.plate) = some id then 1 else 0)) ∧
        UpstreamKept
          { s with
            layout := { s.layout with halls := u.layout.halls, rooms := u.layout.rooms }
            table := { s.table with timing := u.table.timing } } u)

/-- R59: two segments lie in one component exactly when one is reached from the other across OPEN walls; every segment lies in
exactly one component; a component is matched to a room definition exactly when that has its segments. R51: a set is connected
exactly when each of its segments is reached from each across the walls in view. -/
def Obligations.FormationComponents : Prop :=
  ∀ s segments, segments.Nodup →
    (∀ g ∈ segments, ∀ h ∈ segments,
      (∃ c ∈ formationOf s segments, g ∈ c.segments ∧ h ∈ c.segments) ↔ Reaches (joined s isOpen) segments g h) ∧
    (∀ g ∈ segments, ∃ c ∈ formationOf s segments, g ∈ c.segments ∧
      ∀ d ∈ formationOf s segments, g ∈ d.segments → d = c) ∧
    (∀ c ∈ formationOf s segments, ∀ r, risingKeys s.layout.rooms = true → c.room = some r →
      ∃ x, lookup s.layout.rooms r = some x ∧ x.segments = c.segments) ∧
    (∀ c ∈ formationOf s segments, ∀ r x, risingKeys s.layout.rooms = true → lookup s.layout.rooms r = some x →
      x.segments = c.segments → (∀ q y, lookup s.layout.rooms q = some y → y.segments = x.segments → q = r) →
      c.room = some r) ∧
    (∀ passes, connected s passes segments = true ↔
      ∀ g ∈ segments, ∀ h ∈ segments, Reaches (joined s passes) segments g h) ∧
    ∀ passes a b, joined s passes a b = true ↔
      ∃ e ∈ s.layout.walls, passes e.1 e.2 = true ∧
        ((e.2.segA = a ∧ e.2.segB = b) ∨ (e.2.segA = b ∧ e.2.segB = a))

/-- Every step keeps the laws of the layout (R44, R47, R51, R59–R61, R40). -/
def Obligations.LayoutLawfulKept : Prop := ∀ s t, LayoutLawful s → step s = .next t → LayoutLawful t

/-! ### Sense Unit -/

/-- LINE_LEVEL_CHANGE (R66, R67): a level unlike the filtered one starts a 50 ms candidate, one equal to it discards the
candidate; OFF and LAMP lines follow nothing. That the level the line already has changes nothing is the model's choice
(log 1). -/
def Obligations.LineLevelMovesTheCandidate : Prop :=
  ∀ l level s, Settled s → 1 ≤ l → l ≤ 24 →
    ((lineOf s l).input = level → exec (.lineLevelChange l level) s = .next s) ∧
    ((lineOf s l).input ≠ level →
      let judged := fun (f : Filter) =>
        if f.level = some level then (⟨f.level, none⟩ : Filter) else ⟨f.level, some (level, s.now + 50)⟩
      ∃ t, exec (.lineLevelChange l level) s = .next t ∧
        lineOf t l = ⟨level, match (lineOf s l).mode with
          | .off => .off
          | .contact f al es h act pf => .contact (judged f) al es h act pf
          | .wall f w => .wall (judged f) w
          | .lamp h lit => .lamp h lit⟩ ∧
        (∀ n, n ≠ l → lineOf t n = lineOf s n) ∧
        t = { s with sense := { s.sense with lines := t.sense.lines } })

/-- FILTER_EXPIRY. On a CONTACT line the level is taken, the active state follows, and a matching edge sets a clear pending
flag with one SENSE_EDGE; the first level is no edge; the doors-closed state is handed to the Resolver's copy, and a change
of it resolves the door signs of the hall and no others (R68, R69, R71, R102, R103). On a WALL line the level reaches the
wall: its raw state by R55 and its hold by R56. That the timebase stands at the end of the candidate at least is the model's
choice (log 4). -/
def Obligations.FilterExpiryTakesTheLevel : Prop :=
  ∀ l s, Settled s → 1 ≤ l → l ≤ 24 →
    (∀ f al es h act pf level ends, (lineOf s l).mode = .contact f al es h act pf → f.candidate = some (level, ends) →
      let now := level == al
      let edge := f.level.isSome && f.level != some level
      let matching := (es == .both) || (es == .rise && now) || (es == .fall && !now)
      let sets := edge && matching && !pf
      ∃ t, exec (.filterExpiry l) s = .next t ∧
        lineOf t l = ⟨(lineOf s l).input, .contact ⟨some level, none⟩ al es h now (pf || sets)⟩ ∧
        (∀ n, n ≠ l → lineOf t n = lineOf s n) ∧
        t.link = (if sets then (eventNotice (.senseEdge l now) s).link else s.link) ∧
        t.sense.doors.contains h = (t.sense.lines.any fun e => isActiveFor h e.2) ∧
        ((∀ j, s.resolver.doors.contains j = s.sense.doors.contains j) →
          ∀ j, t.resolver.doors.contains j = t.sense.doors.contains j) ∧
        (∀ j, j ≠ h → t.sense.doors.contains j = s.sense.doors.contains j) ∧ DoorsTaken [h] s t ∧ RecordsKept s t ∧
        t = { s with
          now := max s.now ends
          link := t.link
          sense := { s.sense with lines := t.sense.lines, doors := t.sense.doors }
          plates := { s.plates with plates := t.plates.plates }
          resolver := { s.resolver with signs := t.resolver.signs, doors := t.resolver.doors }
          dispatcher := t.dispatcher
          trunks := t.trunks }) ∧
    ∀ f w level ends c o raw hold x, (lineOf s l).mode = .wall f w → f.candidate = some (level, ends) →
      lookup s.layout.walls w = some x → x.source = .sensed c o raw hold →
      ∃ t, exec (.filterExpiry l) s = .next t ∧
        lineOf t l = ⟨(lineOf s l).input, .wall ⟨some level, none⟩ w⟩ ∧ LinesKept [l] s t ∧
        (let new : RawState := match wallLevel t c, wallLevel t o with
          | some .low, some .high => .closed
          | some .high, some .low => .opened
          | some .low, some .low => .conflict
          | _, _ => .moving
        let fresh := fun (opened : Bool) => some (⟨opened, s.layout.settle, max s.now ends + s.layout.settle * 1000⟩ : Hold)
        let after : Option Hold := match new with
          | .opened => if x.settled = .opened then none else fresh true
          | .closed => if x.settled = .closed then none else fresh false
          | .moving => none
          | .conflict => none
        lookup t.layout.walls w = some (if new = raw then x else { x with source := .sensed c o new after }) ∧
          ∀ j, lookup t.layout.halls j = (lookup s.layout.halls j).map fun z =>
            if j = x.hall ∧ new ≠ raw then { z with reconfiguring := reconfiguringNow t j } else z) ∧
        (∀ j, j ≠ w → lookup t.layout.walls j = lookup s.layout.walls j) ∧
        t = { s with
          now := max s.now ends
          layout := { s.layout with halls := t.layout.halls, walls := t.layout.walls }
          sense := { s.sense with lines := t.sense.lines, reconfiguring := t.sense.reconfiguring } }

/-- SENSE_CONFIG (R74, R75): its checks in order; OFF, CONTACT entered or kept, LAMP with its drive set at once; the pending
flag is always clear; the Resolver's copies follow the doors-closed states, and the door signs of a hall whose state changes
are resolved, and no others (R71, R102, R103). The reply's bytes and the ignored options are the model's choices (log 19,
20, 28), and so is that the hall a binding leaves is handed first (log 14). -/
def Obligations.SenseConfigSetsTheMode : Prop :=
  ∀ tag l s, tag ≠ 0 → Settled s →
    (∀ mode o1 o2 o3, RefusedInOrder (.senseConfig tag l mode o1 o2 o3) tag s
      [(l = 0 ∨ 24 < l ∨ ¬ (mode = 0 ∨ (mode = 1 ∧ o1 ≤ 1 ∧ 1 ≤ o2 ∧ o2 ≤ 3 ∧ o3 ≤ 12) ∨ mode = 2 ∨
          (mode = 3 ∧ 1 ≤ o1 ∧ o1 ≤ 12)), .outOfRange),
       (∃ f w, (lineOf s l).mode = .wall f w, .inUse), (mode = 2, .wrongMode),
       (mode = 1 ∧ o3 ≠ 0 ∧ ∃ e ∈ s.sense.lines, e.1 ≠ l ∧ isBoundTo o3 e.2 = true, .exists)]) ∧
    (1 ≤ l → l ≤ 24 → (∀ f w, (lineOf s l).mode ≠ .wall f w) →
      let sets := fun (mode o1 o2 o3 : Nat) (m : LineMode) =>
        ∃ u, exec (.senseConfig tag l mode o1 o2 o3) s =
            .next (answered tag (ok (lineBytesOf ⟨(lineOf s l).input, m⟩)) [] u) ∧
          lineOf u l = ⟨(lineOf s l).input, m⟩ ∧ (∀ n, n ≠ l → lineOf u n = lineOf s n) ∧
          (∀ h, 1 ≤ h → h = boundHall (lineOf s l) ∨ h = boundHall ⟨(lineOf s l).input, m⟩ →
            u.sense.doors.contains h = (u.sense.lines.any fun e => isActiveFor h e.2)) ∧
          ((∀ h, s.resolver.doors.contains h = s.sense.doors.contains h) →
            ∀ h, u.resolver.doors.contains h = u.sense.doors.contains h) ∧
          (let bound := [boundHall (lineOf s l), boundHall ⟨(lineOf s l).input, m⟩]
          (∀ h, h ∉ bound → u.sense.doors.contains h = s.sense.doors.contains h) ∧ DoorsTaken bound s u) ∧
          RecordsKept s u ∧
          u = { s with
            sense := { s.sense with lines := u.sense.lines, doors := u.sense.doors }
            plates := { s.plates with plates := u.plates.plates }
            resolver := { s.resolver with signs := u.resolver.signs, doors := u.resolver.doors }
            dispatcher := u.dispatcher
            trunks := u.trunks }
      (∀ o1 o2 o3, sets 0 o1 o2 o3 .off) ∧
      (∀ h o2 o3, 1 ≤ h → h ≤ 12 →
        sets 3 h o2 o3 (.lamp h (s.sense.reconfiguring.contains h || s.sense.mismatch.contains h))) ∧
      ∀ o1 o2 h al es, (o1, al) ∈ [(0, Level.low), (1, Level.high)] →
        (o2, es) ∈ [(1, EdgeSelect.rise), (2, EdgeSelect.fall), (3, EdgeSelect.both)] → h ≤ 12 →
        boundElsewhere s l h = false →
        ((∀ f al' es' h' act pf, (lineOf s l).mode ≠ .contact f al' es' h' act pf) →
          sets 1 o1 o2 h (.contact ⟨none, some ((lineOf s l).input, s.now + 50)⟩ al es h false false)) ∧
        ∀ f al' es' h' act pf, (lineOf s l).mode = .contact f al' es' h' act pf →
          sets 1 o1 o2 h (.contact f al es h (f.level == some al) false))

/-- SENSE_ACK (R70): the listed CONTACT lines with a set flag are cleared and reported in rising order; a line out of range or
a count outside 1–24 refuses the request whole. -/
def Obligations.SenseAckClears : Prop :=
  ∀ tag ls s, tag ≠ 0 → Settled s →
    (1 ≤ ls.length → ls.length ≤ 24 → (∀ l ∈ ls, 1 ≤ l ∧ l ≤ 24) →
      let cleared := (upTo 24).filter fun l => ls.contains l && isPending (lineOf s l)
      ∃ u, exec (.senseAck tag ls) s = .next (answered tag (ok (u8 cleared.length ++ cleared.flatMap u8)) [] u) ∧
        (∀ l, lineOf u l = if l ∈ ls then clearPending (lineOf s l) else lineOf s l) ∧
        u = { s with sense := { s.sense with lines := u.sense.lines } }) ∧
    (ls.length = 0 ∨ 24 < ls.length ∨ (∃ l ∈ ls, l = 0 ∨ 24 < l) →
      exec (.senseAck tag ls) s = .next (answered tag (refusal .outOfRange) [] s))

/-- Every step keeps each lamp LIT exactly while an input of its hall is true, each mismatch input and each mismatch value of
the Resolver equal to the live LAYOUT_MISMATCH, the Resolver's doors-closed copies equal to the doors-closed states, and each
reconfiguring input true exactly while its hall is defined with its indication true (R61, R71, R73, R103, R123, R189). -/
def Obligations.LampsLawfulKept : Prop := ∀ s t, LampsLawful s → step s = .next t → LampsLawful t

/-! ### Plate Store -/

/-- PLATE_OPEN (R78, R79, R81): the lowest-numbered free pages, as many as the size needs, in rising order; a FILLING record;
the free count falls. The refusals leave everything as it was. -/
def Obligations.PlateOpenTakesPages : Prop :=
  ∀ tag id size d s, tag ≠ 0 → Settled s →
    (id = 0 ∨ 255 < id ∨ size = 0 ∨ 65536 < size →
      exec (.plateOpen tag id size d) s = .next (answered tag (refusal .outOfRange) [] s)) ∧
    (1 ≤ id → id ≤ 255 → 1 ≤ size → size ≤ 65536 →
      let n := (size + 255) / 256
      (PoolLawful s → plateAt s id = none → n ≤ s.plates.freeCount →
        ∃ pages u, exec (.plateOpen tag id size d) s =
            .next (answered tag (ok (u8 id ++ u16 n ++ u16 (s.plates.freeCount - n))) [] u) ∧
          plateAt u id = some ⟨.filling, size, pages, 0, d, 0, 0, 0, 0⟩ ∧
          (∀ j, j ≠ id → plateAt u j = plateAt s j) ∧ pages.length = n ∧ rising pages = true ∧
          (∀ p ∈ pages, 1 ≤ p ∧ p ≤ 2048 ∧ p ∉ heldPages s) ∧
          (∀ q, 1 ≤ q → q ≤ 2048 → q ∉ heldPages s → q ∉ pages → ∀ p ∈ pages, p < q) ∧
          u = { s with
            plates := { s.plates with plates := u.plates.plates, freeCount := s.plates.freeCount - n } }) ∧
      (plateAt s id = none → s.plates.freeCount < n →
        exec (.plateOpen tag id size d) s = .next (answered tag (refusal .full) [] s)) ∧
      ∀ p, plateAt s id = some p →
        exec (.plateOpen tag id size d) s =
          .next (answered tag (refusal (if p.state = .doomed then .busy else .exists)) [] s))

/-- PLATE_DATA (R80, R82): its checks in order; the bytes stand at their offsets, the received count rises, and every other
byte of the pool reads as before. -/
def Obligations.PlateDataWritesTheContent : Prop :=
  ∀ tag id bytes s, tag ≠ 0 → Settled s →
    (∀ offset, RefusedInOrder (.plateData tag id offset bytes) tag s
      [(id = 0 ∨ 255 < id ∨ 65535 < offset ∨ bytes.length = 0 ∨ 768 < bytes.length, .outOfRange),
       (∀ p, plateAt s id = some p → p.state ≠ .filling, .wrongMode),
       (∃ p, plateAt s id = some p ∧ offset ≠ p.received, .sequence),
       (∃ p, plateAt s id = some p ∧ p.size < offset + bytes.length, .outOfRange)]) ∧
    ∀ p, PoolLawful s → plateAt s id = some p → p.state = .filling →
      1 ≤ bytes.length → bytes.length ≤ 768 → p.received + bytes.length ≤ p.size →
      ∃ u, exec (.plateData tag id p.received bytes) s =
          .next (answered tag (ok (u8 id ++ u32 (p.received + bytes.length))) [] u) ∧
        plateAt u id = some { p with received := p.received + bytes.length } ∧
        (∀ j, j ≠ id → plateAt u j = plateAt s j) ∧
        (∀ i, i < bytes.length → contentByte u p (p.received + i) = bytes.getD i 0) ∧
        (∀ a, (∀ i, i < bytes.length → contentAddress p (p.received + i) ≠ a) →
          readByte u.plates.pool a = readByte s.plates.pool a) ∧
        u = { s with plates := { s.plates with plates := u.plates.plates, pool := u.plates.pool } }

/-- PLATE_CLOSE and PLATE_DELETE (R83, R86, R87, R90): their checks in order; a matching digest makes the plate READY,
another one frees it; a deletion frees a plate no run reads, dooms one that a run reads, and releases the slots that hold
it, the slot of a run in flight being marked; idle trunks with a freed slot then decide (R132, R151). That a deletion marks
every sign whose desired composition names the plate, until its next resolution, is the model's reading (log 23); that a
FREE slot keeps its stamp (log 22) and that idle trunks decide as the command ends (log 15) are its choices. -/
def Obligations.PlatesCloseAndGo : Prop :=
  ∀ tag id s, tag ≠ 0 → Settled s →
    RefusedInOrder (.plateClose tag id) tag s
      [(id = 0 ∨ 255 < id, .outOfRange), (∀ p, plateAt s id = some p → p.state ≠ .filling, .wrongMode),
       (∃ p, plateAt s id = some p ∧ p.received ≠ p.size, .sequence)] ∧
    RefusedInOrder (.plateDelete tag id) tag s
      [(id = 0 ∨ 255 < id, .outOfRange), (plateAt s id = none, .notFound),
       (∃ p, plateAt s id = some p ∧ p.timetableRefs + p.layoutRefs + p.settingsRefs ≠ 0, .inUse)] ∧
    ∀ p, 1 ≤ id → id ≤ 255 → plateAt s id = some p →
      let free := s.plates.freeCount + p.pages.length
      let gone := fun (u : State) =>
        plateAt u id = none ∧ u.plates.freeCount = free ∧
          u.plates.watch = (match s.plates.watch with
            | some n => if n ≤ free then none else some n
            | none => none)
      let told : List Notice := match s.plates.watch with
        | some n => if n ≤ free then [.poolAvailable free] else []
        | none => []
      (p.state = .filling → p.received = p.size → digest (content s p) = p.digest →
        ∃ u, exec (.plateClose tag id) s = .next (answered tag (ok (u8 id ++ digestBytes p.digest)) [] u) ∧
          plateAt u id = some { p with state := .ready } ∧ (∀ j, j ≠ id → plateAt u j = plateAt s j) ∧
          u = { s with plates := { s.plates with plates := u.plates.plates } }) ∧
      (p.state = .filling → p.received = p.size → digest (content s p) ≠ p.digest →
        ∃ u, exec (.plateClose tag id) s = .next (answered tag (refusal .digestMismatch) told u) ∧ gone u ∧
          (∀ j, j ≠ id → plateAt u j = plateAt s j) ∧
          u = { s with
            plates := { s.plates with plates := u.plates.plates, freeCount := free, watch := u.plates.watch } }) ∧
      (p.state = .filling → references p = 0 →
        ∃ u, exec (.plateDelete tag id) s = .next (answered tag (ok ([0] ++ u16 free)) told u) ∧ gone u ∧
          (∀ j, j ≠ id → plateAt u j = plateAt s j) ∧
          u = { s with
            plates := { s.plates with plates := u.plates.plates, freeCount := free, watch := u.plates.watch } }) ∧
      (p.state = .ready → references p = 0 →
        ∃ v u, exec (.plateDelete tag id) s =
            .next (answered tag
              (ok (if p.inFlight = 0 then [0] ++ u16 free else [3] ++ u16 s.plates.freeCount))
              (if p.inFlight = 0 then told else []) u) ∧
          SlotsReleased id s v ∧ (∀ j, j ≠ id → plateAt v j = plateAt s j) ∧ (p.inFlight = 0 → gone v) ∧
          (p.inFlight ≠ 0 → plateAt v id = some { p with state := .doomed } ∧ v.plates.freeCount = s.plates.freeCount ∧
            v.plates.watch = s.plates.watch) ∧
          v = { s with
            outbox := if p.inFlight = 0 then told else []
            plates :=
              { s.plates with
                plates := v.plates.plates, freeCount := v.plates.freeCount, watch := v.plates.watch }
            resolver := { s.resolver with signs := v.resolver.signs }
            dispatcher := { s.dispatcher with panels := v.dispatcher.panels }
            trunks := v.trunks } ∧
          u = { settleTrunk 4 (settleTrunk 3 (settleTrunk 2 (settleTrunk 1 v))) with outbox := [] } ∧
          (p.inFlight = 0 → gone u) ∧
          (p.inFlight ≠ 0 → plateAt u id = some { p with state := .doomed } ∧ u.plates.freeCount = s.plates.freeCount ∧
            u.plates.watch = s.plates.watch) ∧
          (∀ k, (panelAt u k).map (fun q => (q.link, q.shown, q.awaiting, q.query, q.credit, q.failures)) =
            (panelAt s k).map fun q => (q.link, q.shown, q.awaiting, q.query, q.credit, q.failures)) ∧
          (∀ k q, panelAt u k = some q → ∀ j x, (j, x) ∈ numberedSlots q.mirror → slotPlate x = some id →
            slotInFlight s k id = some j) ∧
          (∀ j, j ≠ id → ∃ runs, plateAt u j = (plateAt s j).map fun q => { q with inFlight := runs }) ∧
          (∀ k, signAt u k = (signAt s k).map fun g =>
            if id ∈ namedPlates g.desired then { g with gone := insertNumber g.gone id } else g) ∧
          u = { s with
            plates :=
              { s.plates with
                plates := u.plates.plates, freeCount := u.plates.freeCount, watch := u.plates.watch }
            resolver := { s.resolver with signs := u.resolver.signs }
            dispatcher := u.dispatcher
            trunks := u.trunks }) ∧
      (p.state = .doomed → references p = 0 →
        exec (.plateDelete tag id) s = .next (answered tag (ok ([3] ++ u16 s.plates.freeCount)) [] s)) ∧
      (references p ≠ 0 → exec (.plateDelete tag id) s = .next (answered tag (refusal .inUse) [] s))

/-- POOL_WATCH (R91), LAYOUT_SETTLE (R58) and SETTINGS_PLATES (R92): the watch kept or satisfied at once, the settle time, the
settings with their references and every sign resolved; their refusals. -/
def Obligations.WatchSettleAndSettings : Prop :=
  ∀ tag s, tag ≠ 0 → Settled s →
    (∀ n, 1 ≤ n → n ≤ s.plates.freeCount → n ≤ 2048 →
      exec (.poolWatch tag n) s = .next (answered tag (ok (u16 s.plates.freeCount ++ [0, 0]))
        [.poolAvailable s.plates.freeCount] { s with plates := { s.plates with watch := none } })) ∧
    (∀ n, s.plates.freeCount < n → n ≤ 2048 →
      exec (.poolWatch tag n) s = .next (answered tag (ok (u16 s.plates.freeCount ++ u16 n)) []
        { s with plates := { s.plates with watch := some n } })) ∧
    (∀ n, n = 0 ∨ 2048 < n → exec (.poolWatch tag n) s = .next (answered tag (refusal .outOfRange) [] s)) ∧
    (∀ n, 1 ≤ n → n ≤ 60 →
      exec (.layoutSettle tag n) s =
        .next (answered tag (ok (u8 n)) [] { s with layout := { s.layout with settle := n } })) ∧
    (∀ n, n = 0 ∨ 60 < n → exec (.layoutSettle tag n) s = .next (answered tag (refusal .outOfRange) [] s)) ∧
    (∀ x : Settings, (∃ id ∈ settingsList x, id ≠ 0 ∧ isReady s id = false) →
      exec (.settingsPlates tag x) s = .next (answered tag (refusal .notFound) [] s)) ∧
    ∀ x : Settings, (∀ id ∈ settingsList x, id = 0 ∨ isReady s id = true) →
      ∃ u, exec (.settingsPlates tag x) s = .next (answered tag (ok ((settingsList x).flatMap u8)) [] u) ∧
        UpstreamKept { s with plates := { s.plates with settings := x } } u ∧
        ResolverHears (fun _ => true) (fun _ => false) [] s u ∧
        ∀ id p, plateAt s id = some p → p.settingsRefs = settingsRefsOf s.plates.settings id →
          ∃ q, plateAt u id = some q ∧ q.settingsRefs = settingsRefsOf x id

/-- Every step keeps the pool's canonical form and its accounting: no page held twice, free and held pages 2048 (R78–R80). -/
def Obligations.PoolLawfulKept : Prop := ∀ s t, PoolLawful s → step s = .next t → PoolLawful t

/-- Every step keeps the reference counts equal to what the table, the layout and the settings name, and every plate they
name READY (R36, R54, R84, R85). -/
def Obligations.ReferencesLawfulKept : Prop := ∀ s t, ReferencesLawful s → step s = .next t → ReferencesLawful t

/-! ### Resolver and Dispatcher -/

/-- SIGN_DEFINE, SIGN_REMOVE and VIEW_EXPIRY (R97, R98, R122, R126, R130, R152, R166): their checks in order; a sign
resolved at once, the kept reference judging the change of primary, with a fresh panel record if it is new; a sign and its
panel record forgotten, a step in flight for it orphaned; a view back to NORMAL. The bytes of the sign record in the reply
(log 19, 20) and the timebase standing at the view's expiry at least (log 4) are the model's choices. -/
def Obligations.SignsComeAndGo : Prop :=
  ∀ tag n p s, tag ≠ 0 → Settled s →
    let k := 32 * n + p
    let badPlace := ¬ (1 ≤ n ∧ n ≤ 4 ∧ 1 ≤ p ∧ p ≤ 30)
    let resolved := fun (u : State) (g : Sign) =>
      signAt u k = some g ∧ g.gone = [] ∧ g.desired = compositionOf u g ∧ g.primary = (signPrimary u g).map identity ∧
      (∀ j, j ≠ k → signAt u j = signAt s j) ∧ OtherTrunksKept n s u ∧
      (∀ j, keyTrunk j ≠ n → panelAt u j = panelAt s j) ∧
      u = { s with
        now := u.now
        plates := { s.plates with plates := u.plates.plates }
        resolver := { s.resolver with signs := u.resolver.signs }
        dispatcher := u.dispatcher
        trunks := u.trunks }
    (∀ form, RefusedInOrder (.signDefine tag n p form) tag s
      [(badPlace ∨ ∀ role, ¬ FormGives form role, .outOfRange),
       (∃ role, FormGives form role ∧ ∃ g ∈ roleSegments role, hallOfSegment s g = none, .notFound)]) ∧
    RefusedInOrder (.signRemove tag n p) tag s [(badPlace, .outOfRange), (signAt s k = none, .notFound)] ∧
    (1 ≤ n → n ≤ 4 → 1 ≤ p → p ≤ 30 →
      (∀ form role, FormGives form role → (∀ g ∈ roleSegments role, (hallOfSegment s g).isSome = true) →
        ∃ u g, exec (.signDefine tag n p form) s = .next (answered tag (ok (signBytes s.now n p g)) [] u) ∧
          resolved u g ∧ g.role = role ∧ g.view = none ∧ u.now = s.now ∧
          (signAt s k = none → panelAt u k = some
            ⟨.absent, none, none,
              if (trunkOf s n).state = .running ∧ p ≤ (trunkOf s n).chainCount then .adopt else .none, 8, 0,
              List.replicate 8 ⟨.free, s.now⟩, none⟩) ∧
          ∀ old, signAt s k = some old → PanelHears s u k old g) ∧
      (∀ g, signAt s k = some g →
        ∃ u, exec (.signRemove tag n p) s = .next (answered tag (ok []) [] u) ∧ signAt u k = none ∧ panelAt u k = none ∧
          (∀ j, j ≠ k → signAt u j = signAt s j ∧ panelAt u j = panelAt s j) ∧
          (∀ x, x ∈ u.health.live ↔
            x ∈ s.health.live ∧ ¬ (x.object = .panel n p ∧ x.condition ∈ panelConditions)) ∧
          trunkOf u n =
            { trunkOf s n with
              recovery := erase (trunkOf s n).recovery p
              step := (trunkOf s n).step.map fun d => if d.position = p then { d with orphaned := true } else d } ∧
          OtherTrunksKept n s u ∧
          u = { s with
            resolver := { s.resolver with signs := u.resolver.signs }
            dispatcher := { s.dispatcher with panels := u.dispatcher.panels }
            trunks := u.trunks
            health := { s.health with live := u.health.live } }) ∧
      ∀ g ends, signAt s k = some g → g.view = some ends →
        ∃ t g', exec (.viewExpiry n p) s = .next t ∧ resolved t g' ∧ g'.role = g.role ∧ g'.view = none ∧
          t.now = max s.now ends ∧ PanelHears s t k g g')

/-- What the Resolver computes. The phase of an entry, one of R104's table by its intervals, with the time field and progress
of R105; the primary and the next entry of a door sign, the day list (R106–R109, R118); the title choice and the names (R111,
R113); the kind and every field of a door sign's composition (R110, R112–R118, R124); the room primary, the lines and the
composition of a corridor sign (R119, R120, R124); the mismatch value of a hall (R123). -/
def Obligations.PhaseTable : Prop :=
  (∀ (t : Timing) (n b e : Nat), t.d ≤ t.a → b < e →
    (phaseAt t n b e = .none ↔ (n : Int) < (b : Int) - t.a ∨ e + t.l ≤ n) ∧
    (phaseAt t n b e = .upcoming ↔ (b : Int) - t.a ≤ n ∧ (n : Int) < (b : Int) - t.d) ∧
    (phaseAt t n b e = .doors ↔ (b : Int) - t.d ≤ n ∧ n < b) ∧
    (phaseAt t n b e = .underway ↔ b ≤ n ∧ n < e) ∧
    (phaseAt t n b e = .closing ↔ e ≤ n ∧ n < e + t.l)) ∧
  (∀ s e, phaseOf s e =
    phaseAt ((lookup s.table.timing e.room).getD ⟨60, 15, 5⟩) (s.clock.day * 1440 + s.clock.minute) e.start e.stop) ∧
  (∀ n b e,
    timeField .upcoming n b e = clockField n b ∧ timeField .doors n b e = ⟨.countdown, b - n, 0⟩ ∧
    timeField .underway n b e = clockField n e ∧ timeField .closing n b e = clockField n e ∧
    timeField .none n b e = ⟨.none, 0, 0⟩ ∧ (∀ p, p ≠ .underway → progressOf p n b e = none) ∧
    (b ≤ n → n < e → ∃ v, progressOf .underway n b e = some v ∧ v ≤ 15 ∧ v * (e - b) ≤ 16 * (n - b) ∧
      16 * (n - b) < (v + 1) * (e - b)) ∧
    let days : Int := (b / 1440 : Nat) - (n / 1440 : Nat)
    (clockField n b).kind = .clock ∧ (clockField n b).value = b % 1440 ∧
      (days < -1 → (clockField n b).offset = -1) ∧ (2 < days → (clockField n b).offset = 2) ∧
      (-1 ≤ days → days ≤ 2 → (clockField n b).offset = days)) ∧
  (∀ s g, (∀ e ∈ s.table.entries, e.stop ≤ 94371839) →
    (s.clock.isSet = false → primaryOf s g = none) ∧
    (s.clock.isSet = true →
      IsFirst s.table.entries (fun e => g ∈ roomSegments s e.room ∧ phaseOf s e ≠ .none) (Outranks s) (primaryOf s g)) ∧
    ∀ room, IsFirst s.table.entries (fun e => e.room = room ∧ isScheduled e = true ∧ phaseOf s e ≠ .none) (Outranks s)
      (roomPrimary s room)) ∧
  (∀ s g p, IsFirst s.table.entries
    (fun e => g ∈ roomSegments s e.room ∧ isScheduled e = true ∧ p.start < e.start ∧ e.start < (s.clock.day + 1) * 1440)
    StartsBefore (nextAfter s g p)) ∧
  (∀ s g, ∃ later : List Entry,
    later.Perm (s.table.entries.filter fun e =>
      (roomSegments s e.room).contains g && isScheduled e && decide (s.clock.day * 1440 ≤ e.start) &&
        decide (e.start < (s.clock.day + 1) * 1440) && decide (s.clock.day * 1440 + s.clock.minute < e.stop)) ∧
    later.Pairwise (fun a b => ¬ StartsBefore b a) ∧ dayList s g = later.take 5) ∧
  (∀ s e, (e.priv = true → titleChoice s e = s.plates.settings.priv) ∧
    (e.priv = false → e.title ≠ 0 → titleChoice s e = e.title) ∧
    (e.priv = false → e.title = 0 → titleChoice s e = s.plates.settings.untitled)) ∧
  (∀ s r, (∀ x, lookup s.layout.rooms r = some x → roomPlate s r = x.plate) ∧
    (isFormed s r = true ↔ ∃ x y, lookup s.layout.rooms r = some x ∧ lookup s.layout.halls x.hall = some y ∧
      ∃ c ∈ y.formation, c.room = some r)) ∧
  (∀ s g h x c, hallOfSegment s g = some h → lookup s.layout.halls h = some x → c ∈ x.formation → g ∈ c.segments →
    (∀ d ∈ x.formation, g ∈ d.segments → d = c) →
    (∀ r, c.room = some r → segmentName s g = roomPlate s r) ∧ (c.room = none → segmentName s g = x.plate)) ∧
  (∀ s g view,
    let shows := fun (c : Composition) => doorComposition s g view = c
    let title := fun (i : Nat) => ((dayList s g)[i]?.map (titleChoice s)).getD 0
    (s.clock.isSet = false →
      shows ⟨.nameOnly, ⟨segmentName s g, 0, 0, 0, 0, 0⟩, .none, .empty, none, none, [], false, []⟩) ∧
    (s.clock.isSet = true → view = true →
      shows ⟨.dayList, ⟨segmentName s g, title 0, title 1, title 2, title 3, title 4⟩, .none, .empty, none, none, [],
        false, (dayList s g).map fun e => e.start % 1440⟩) ∧
    (s.clock.isSet = true → view = false → primaryOf s g = none →
      shows ⟨.nameOnly, ⟨segmentName s g, s.plates.settings.idle, 0, 0, 0, 0⟩, .none, .empty, none, none, [], false,
        []⟩) ∧
    ∀ p, s.clock.isSet = true → view = false → primaryOf s g = some p →
      let phase := phaseOf s p
      let minute := s.clock.day * 1440 + s.clock.minute
      let time := timeField phase minute p.start p.stop
      let progress := progressOf phase minute p.start p.stop
      let next := nextAfter s g p
      let closed := phase = .underway ∧ (hallOfSegment s g).any (fun h => s.resolver.doors.contains h) = true
      (isScheduled p = true → (isFormed s p.room = true ∨ phase = .upcoming ∨ phase = .closing) →
        shows ⟨.session,
          ⟨roomPlate s p.room, titleChoice s p, p.banner, (next.map (titleChoice s)).getD 0,
            if closed then s.plates.settings.doorsClosed else 0, 0⟩,
          phase, time, progress, next.map fun x => x.start % 1440, [], false, []⟩) ∧
      (isScheduled p = true → isFormed s p.room = false → (phase = .doors ∨ phase = .underway) →
        shows ⟨.setupPending, ⟨roomPlate s p.room, titleChoice s p, s.plates.settings.setup, 0, 0, 0⟩, phase, time,
          progress, none, [], false, []⟩) ∧
      (∀ goal q, IsMovedFor p goal → q ∈ s.table.entries → sessionNumber q = some goal →
        (∀ x ∈ s.table.entries, sessionNumber x = some goal → x = q) →
        shows ⟨.movedNotice,
          ⟨roomPlate s p.room, s.plates.settings.moved, roomPlate s q.room, titleChoice s p, 0, 0⟩, phase,
          clockField minute q.start, none, none, [], false, []⟩) ∧
      ((∃ m, p.what = .session m true) ∨ (∃ m, p.what = .tombstone m none) →
        shows ⟨.cancelledNotice, ⟨roomPlate s p.room, s.plates.settings.cancelled, titleChoice s p, 0, 0, 0⟩, phase,
          clockField minute p.start, none, none, [], false, []⟩)) ∧
  (∀ s routes,
    let shows := fun (c : Composition) => corridorComposition s routes = c
    let blank : Composition := ⟨.blank, ⟨0, 0, 0, 0, 0, 0⟩, .none, .empty, none, none, [], false, []⟩
    (s.clock.isSet = false → shows blank) ∧
    (s.clock.isSet = true → risingKeys s.layout.rooms = true → (∀ e ∈ s.layout.rooms, rising e.2.segments = true) →
      (routes.map fun r => r.1).Nodup →
      ∃ lines : List (Nat × Entry × Nat),
        (∀ room p, (∃ a, (room, p, a) ∈ lines) ↔ Qualifies s routes room p) ∧
        (∀ x ∈ lines, ∃ g ∈ roomSegments s x.1, (g, x.2.2) ∈ routes ∧
          ∀ f ∈ roomSegments s x.1, ∀ a, (f, a) ∈ routes → g ≤ f) ∧
        lines.Pairwise (LineBefore s) ∧
        let plate := fun (i : Nat) => (lines[i]?.map fun x => roomPlate s x.1).getD 0
        let line := fun (x : Nat × Entry × Nat) =>
          (⟨x.2.2, phaseOf s x.2.1,
            timeField (phaseOf s x.2.1) (s.clock.day * 1440 + s.clock.minute) x.2.1.start x.2.1.stop⟩ : DirLine)
        (lines = [] → shows blank) ∧
        (lines ≠ [] →
          shows ⟨.directory, ⟨plate 0, plate 1, plate 2, plate 3, 0, 0⟩, .none, .empty, none, none,
            (lines.take 4).map line, decide (4 < lines.length), []⟩))) ∧
  (∀ s g,
    (∀ seg key, g.role = .door seg key →
      compositionOf s g = doorComposition s seg g.view.isSome ∧ signPrimary s g = primaryOf s seg) ∧
    ∀ routes, g.role = .corridor routes →
      compositionOf s g = corridorComposition s routes ∧ signPrimary s g = none) ∧
  ∀ s h, mismatchNow s h = true ↔
    s.clock.isSet = true ∧ isListed s.layout.halls h = true ∧ ∃ e ∈ s.table.entries, isScheduled e = true ∧
      (∃ x, lookup s.layout.rooms e.room = some x ∧ x.hall = h) ∧ (phaseOf s e = .doors ∨ phaseOf s e = .underway) ∧
      isFormed s e.room = false

/-- CREDIT_ACCRUAL (R138): every credit rises by 1, to at most 8, at the shared instant; nothing else of a record but its
place in the queue and its slots may move, for idle trunks then look for work (R132). The queue's order (R129), the first
record with an allowed step (R132), the feed and its slot (R134, R135), the show and its cost (R133, R137), and the step an
idle trunk takes. That a plate deleted since the sign's last resolution bars a feed of it is the model's reading (log 23).
That the timebase stands at the instant at least (log 4), that a late row counts as its instant (log 34) and that the trunks
decide in order of number as the command ends (log 15) are the model's choices. -/
def Obligations.CreditAccrues : Prop :=
  (∀ s n, (queueOf s n).Perm (s.dispatcher.panels.filter fun e => keyTrunk e.1 == n && e.2.queue.isSome) ∧
    (queueOf s n).Pairwise fun a b => ∀ x y, a.2.queue = some x → b.2.queue = some y → ¬ QueueBefore y x) ∧
  (∀ s k p g urgent d, allowedStep s k p g urgent = some d ↔ StepAllowed s k p g urgent d) ∧
  (∀ s n,
    let passed := fun (e : Nat × Panel) => ∀ g q, signAt s e.1 = some g → e.2.queue = some q →
      allowedStep s e.1 e.2 g q.urgent = none
    (scanQueue s n = none ↔ ∀ e ∈ queueOf s n, passed e) ∧
    ∀ k p urgent d, scanQueue s n = some (k, p, urgent, d) ↔
      ∃ before after g q, queueOf s n = before ++ (k, p) :: after ∧ (∀ e ∈ before, passed e) ∧ signAt s k = some g ∧
        p.queue = some q ∧ q.urgent = urgent ∧ allowedStep s k p g urgent = some d) ∧
  ∀ s, Settled s → risingKeys s.dispatcher.panels = true →
    let accrued : State :=
      { s with
        now := max s.now s.nextAccrual
        nextAccrual := s.nextAccrual + 60000
        dispatcher :=
          { s.dispatcher with
            panels := s.dispatcher.panels.map fun e => (e.1, { e.2 with credit := min 8 (e.2.credit + 1) }) } }
    ∃ t, exec .creditAccrual s = .next t ∧
      (∀ k p, panelAt s k = some p → ∃ q, panelAt t k = some q ∧ q.credit = min 8 (p.credit + 1) ∧ q.link = p.link ∧
        q.shown = p.shown ∧ q.awaiting = p.awaiting ∧ q.query = p.query ∧ q.failures = p.failures) ∧
      (∀ n, 1 ≤ n → n ≤ 4 → (trunkOf s n).exchange = none → (trunkOf s n).stopPending = false →
        (trunkOf s n).state = .running → (trunkOf s n).probeDue = false → anyAttention (trunkOf s n).attention = false →
        (∀ p, 1 ≤ p → p ≤ 30 → ¬ QueryIsDue s n p) → StepTaken n accrued t) ∧
      t = { s with
        now := max s.now s.nextAccrual
        nextAccrual := s.nextAccrual + 60000
        plates := { s.plates with plates := t.plates.plates }
        dispatcher := t.dispatcher
        trunks := t.trunks }

/-- Every step keeps each credit within −4 to 8, since a show step is only handed out against a credit that pays it (R137,
R138), and every trunk record lawful: nothing in flight while OFF, at most 30 positions counted, every position in flight one
of its trunk's (R155, R162). -/
def Obligations.CreditLawfulKept : Prop := ∀ s t, CreditLawful s → step s = .next t → CreditLawful t

/-- Every step keeps a record in its trunk's queue exactly while it is PRESENT and its desired composition differs from its
target (R129). -/
def Obligations.QueueLawfulKept : Prop := ∀ s t, QueueLawful s → step s = .next t → QueueLawful t

/-! ### Trunk Controllers -/

/-- TRUNK_START, TRUNK_STOP, TRUNK_COUNT and TRUNK_CHECK (R156–R160, R175, R178): their checks in order; each at once or
pending, as the trunk stands. A stop at once leaves the trunk, its panel records and their flags as R153 says, and all else as
it was. -/
def Obligations.TrunkRequests : Prop :=
  ∀ tag n s, tag ≠ 0 → Settled s →
    let x := trunkOf s n
    let badTrunk := n = 0 ∨ 4 < n
    let gives := fun (i : Instr) (payload : List Byte) (y : Trunk) =>
      ∃ u, exec i s = .next (answered tag (ok payload) [] u) ∧ trunkOf u n = y ∧ OtherTrunksKept n s u ∧
        u = { s with trunks := u.trunks }
    (∀ v, RefusedInOrder (.trunkStart tag n v) tag s
      [(badTrunk ∨ 1 < v, .outOfRange), (x.state ≠ .off, .busy)]) ∧
    RefusedInOrder (.trunkStop tag n) tag s [(badTrunk, .outOfRange)] ∧
    RefusedInOrder (.trunkCount tag n) tag s
      [(badTrunk, .outOfRange), (x.stopPending = true ∨ x.state = .counting, .busy), (x.state ≠ .running, .wrongMode)] ∧
    RefusedInOrder (.trunkCheck tag n) tag s
      [(badTrunk, .outOfRange), (x.state = .off, .wrongMode), (x.stopPending = true, .busy)] ∧
    (1 ≤ n → n ≤ 4 →
      (∀ v, v ≤ 1 → x.state = .off → isLive s (.trunk n) .lineShort = false →
        gives (.trunkStart tag n v) (u8 n ++ [1])
          { x with
            state := .counting, probing := v == 1, stopPending := false, rewalkPending := false, probeDue := false
            walkPosition := 0, exchange := some (.count []), step := none
            probeInterval := if v = 1 then some (s.now + 10000) else none }) ∧
      (∀ v, v ≤ 1 → x.state = .off → isLive s (.trunk n) .lineShort = true →
        gives (.trunkStart tag n v) (u8 n ++ [3])
          { x with
            state := .faulted, probing := v == 1, stopPending := false, rewalkPending := false, probeDue := false
            probeInterval := some (s.now + 10000) }) ∧
      (x.state = .off → gives (.trunkStop tag n) (u8 n ++ [0, 0]) x) ∧
      (x.state ≠ .off → x.exchange ≠ none →
        gives (.trunkStop tag n) (u8 n ++ u8 (trunkStateCode x.state) ++ [1])
          { x with stopPending := true, rewalkPending := false }) ∧
      (x.state ≠ .off → x.exchange = none →
        ∃ u, exec (.trunkStop tag n) s = .next (answered tag (ok (u8 n ++ [0, 0])) [] u) ∧ TrunkStopped n s u ∧
          (∀ k p, keyTrunk k = n → panelAt u k = some p → PanelStopped p)) ∧
      (x.state = .running → x.stopPending = false → x.exchange = none →
        gives (.trunkCount tag n) (u8 n ++ [1])
          { x with
            state := .counting, rewalkPending := false, walkPosition := 0, exchange := some (.count []), step := none
            probeInterval := if x.probing then x.probeInterval else none }) ∧
      (x.state = .running → x.stopPending = false → x.exchange ≠ none →
        gives (.trunkCount tag n) (u8 n ++ [2]) { x with rewalkPending := true }) ∧
      (x.state ≠ .off → x.stopPending = false → x.exchange ≠ none →
        gives (.trunkCheck tag n) (u8 n ++ u8 (trunkStateCode x.state)) { x with probeDue := true }) ∧
      (x.state = .running ∨ x.state = .faulted → x.stopPending = false → x.exchange = none →
        gives (.trunkCheck tag n) (u8 n ++ u8 (trunkStateCode x.state))
          { x with probeDue := false, exchange := some .probe }))

/-- The events that reach an idle or a busy trunk (R166, R171, R175–R177), the overdue deadline (R140) and a stray frame
(R161); what a trunk decides at the end of an exchange (R164, R176, R178), what an idle one that is told decides (R132,
R177), and the run that a feed step begins (R88, R167). That the timebase stands at a timer's end at least (log 4), that a
row carries the attention lines (log 10) and that trunks told within a command decide as it ends (log 15) are the model's
choices; that the overdue deadline sets the query due OVERDUE whatever was due before is its reading (log 33). And the
request frame that each exchange sends (R167, R205). -/
def Obligations.TrunkTimersAndLines : Prop :=
  (∀ u,
    (∀ found, requestFrame u (.count found) = some (trunkFrame 0 1 [])) ∧
    (∀ p, requestFrame u (.query p) = some (trunkFrame p 2 [])) ∧
    (∀ r x, plateAt u r.plate = some x →
      let block := r.first + r.acked
      ∃ bytes : List Byte,
        requestFrame u (.load r) = some (trunkFrame r.position 3
          (u8 r.slot ++ u8 r.plate ++ digestBytes x.digest ++ u16 r.blocks ++ u16 block ++ bytes)) ∧
        bytes.length = min (x.size - 64 * (block - 1)) 64 ∧
        ∀ i, i < bytes.length → bytes[i]? = some (contentByte u x (64 * (block - 1) + i))) ∧
    (∀ p c, requestFrame u (.showing p c) = some (trunkFrame p 4 (encodeComposition c))) ∧
    requestFrame u .call = some (trunkFrame 0 5 []) ∧ requestFrame u .probe = none) ∧
  ∀ n, 1 ≤ n → n ≤ 4 →
  (∀ u, (trunkOf u n).exchange = none → TrunkDecides n u (decideNext n u)) ∧
  (∀ u,
    let x := trunkOf u n
    let heard : Trunk := { x with wake := false }
    (x.wake = false → settleTrunk n u = u) ∧
    (x.wake = true → x.exchange ≠ none ∨ x.stopPending = true ∨ x.state = .off ∨ x.state = .counting →
      OnlyTrunk n heard u (settleTrunk n u)) ∧
    (x.wake = true → x.exchange = none → x.stopPending = false →
      (x.state = .running → ∃ w, OnlyTrunk n heard u w ∧ ArbiterChooses n w (settleTrunk n u)) ∧
      (x.state = .faulted →
        OnlyTrunk n (if x.probeDue then { heard with probeDue := false, exchange := some .probe } else heard) u
          (settleTrunk n u)))) ∧
  (∀ u k p urgent d j id first blocks x, scanQueue u n = some (k, p, urgent, d) → d.kind = .feed j id first blocks →
    plateAt u id = some x →
    plateAt (dispatchStep n u) id = some { x with inFlight := x.inFlight + 1 } ∧
      ∀ i, i ≠ id → plateAt (dispatchStep n u) i = plateAt u i) ∧
  ∀ s, Settled s →
    let x := trunkOf s n
    let gives := fun (i : Instr) (now : Nat) (y : Trunk) =>
      ∃ t, exec i s = .next t ∧ trunkOf t n = y ∧ OtherTrunksKept n s t ∧ t = { s with now := now, trunks := t.trunks }
    (∀ e, x.probeInterval = some e →
      (x.exchange ≠ none →
        gives (.probeIntervalExpiry n) (max s.now e) { x with probeDue := true, probeInterval := some (e + 10000) }) ∧
      (x.exchange = none → x.stopPending = false → x.state = .running ∨ x.state = .faulted →
        gives (.probeIntervalExpiry n) (max s.now e)
          { x with probeDue := false, probeInterval := some (e + 10000), exchange := some .probe })) ∧
    (∀ p e, 1 ≤ p → p ≤ 30 → lookup x.recovery p = some (.running e) →
      (x.exchange ≠ none →
        gives (.recoveryTimerExpiry n p) (max s.now e) { x with recovery := assign x.recovery p .due }) ∧
      (x.exchange = none → x.stopPending = false → x.state = .running → x.probeDue = false →
        anyAttention x.attention = false →
        ∃ q, 1 ≤ q ∧ (q = p ∨ QueryIsDue s n q) ∧ (∀ i, 1 ≤ i → i < q → i ≠ p ∧ ¬ QueryIsDue s n i) ∧
          gives (.recoveryTimerExpiry n p) (max s.now e)
            { x with recovery := assign x.recovery p .due, exchange := some (.query q) })) ∧
    (∀ l, 4 ≤ l → l ≤ 7 →
      (x.exchange ≠ none →
        gives (.attentionLineRise n l) s.now { x with attention := raiseLine x.attention l }) ∧
      (x.exchange = none → x.stopPending = false → x.state = .running → x.probeDue = false →
        gives (.attentionLineRise n l) s.now
          { x with attention := raiseLine x.attention l, exchange := some .call })) ∧
    (∀ frame, x.exchange = none → exec (.strayTrunkFrame n frame) s = .next s) ∧
    ∀ p q w e, 1 ≤ p → p ≤ 30 → panelAt s (32 * n + p) = some q → q.link = .present → q.awaiting = some w →
      w.deadline = some e → risingKeys s.dispatcher.panels = true →
      ∃ t, exec (.overdueDeadlineExpiry n p) s = .next t ∧
        panelAt t (32 * n + p) = some { q with awaiting := some { w with deadline := none }, query := .overdue } ∧
        (∀ k, k ≠ 32 * n + p → panelAt t k = panelAt s k) ∧ isLive t (.panel n p) .overdue = true ∧
        t.link = linkAfter (raised s t [⟨.panel n p, .overdue⟩]) s ∧ (∀ k, HeldFollows s t k) ∧
        (∀ k, k ≠ ⟨.panel n p, .overdue⟩ → (k ∈ t.health.live ↔ k ∈ s.health.live)) ∧
        OtherTrunksKept n s t ∧ TrunkSideKept { s with now := max s.now e } t

/-- STOP_TAKES_EFFECT and REWALK_BEGIN (R153, R158, R159): the exchange in flight ends as its own row ends it, its outcome
reported first; then the trunk goes OFF with its records absent, SILENT, SUPPLY and OVERDUE of its panels cleared and the
slot of a run FREE, or starts its walk again. Other trunks, their records and every other flag stay. That the row carries
the exchange's end (log 12), the attention lines (log 10), that a frame on the data line answers the exchange in flight (log
13) and that notices join at the end of the command (log 16) are the model's choices. -/
def Obligations.PendingStopsAndWalksTakeEffect : Prop :=
  ∀ n e lines s x, Settled s → 1 ≤ n → n ≤ 4 → (trunkOf s n).exchange = some x → ((∃ r, e = .probe r) ↔ x = .probe) →
    ((trunkOf s n).stopPending = true → exec (.stopTakesEffect n e lines) s = exec (endRow n e lines x) s) ∧
    ((trunkOf s n).rewalkPending = true → exec (.rewalkBegin n e lines) s = exec (endRow n e lines x) s) ∧
    ((trunkOf s n).stopPending = true → TrunkLawful (trunkOf s n) →
      ∃ u v t, exec (.stopTakesEffect n e lines) s = .next t ∧ ExchangeReported n lines x s u ∧ TrunkStopped n u v ∧
        EventEndsIn n s v t ∧ (∀ k p, keyTrunk k = n → panelAt t k = some p → PanelStopped p) ∧ TrunkSideKept s t) ∧
    ((trunkOf s n).state = .running → (trunkOf s n).stopPending = false → (trunkOf s n).rewalkPending = true →
      TrunkLawful (trunkOf s n) →
      (x = .call ∨ (∃ p, x = .query p) ∨ (∃ p c, x = .showing p c) ∨ ∃ r, x = .load r ∧ e = .timeout) →
      ∃ u t, exec (.rewalkBegin n e lines) s = .next t ∧ ExchangeReported n lines x s u ∧
        EventEndsIn n s { u with trunks := t.trunks } t ∧
        trunkOf t n =
          { trunkOf u n with
            state := .counting, rewalkPending := false, walkPosition := 0, exchange := some (.count []), step := none
            probeInterval := if (trunkOf u n).probing then (trunkOf u n).probeInterval else none, wake := false } ∧
        TrunkSideKept s t)

/-- COUNT_REPLY and QUERY_REPLY (R142–R145, R148, R162–R166): a good count reply adds its entry and the count goes on, and
the 30th ends it: the chain recorded, COUNT_DONE, CHAIN_CHANGED; a good status record adopts a panel whose ADOPT query is
due or that is BLOCKED, its mirror rebuilt slot by slot, and resolves an overdue refresh in the three ways of R142; a position
without a record has its outcome discarded. That a
slot not adopted keeps its stamp (log 22), that the row carries the attention lines (log 10), that the frame answers the
exchange in flight (log 13) and that a count's HEALTH notice comes before its COUNT_DONE (log 14) are the model's choices;
that a good QUERY of a record that asks none and is not BLOCKED resets its failure count and nothing else is its reading
(log 32). -/
def Obligations.CountAndQueryReplies : Prop :=
  ∀ n lines s, Settled s → 1 ≤ n → n ≤ 4 →
    (∀ found kind slots key, (trunkOf s n).exchange = some (.count found) → found.length + 1 < 30 →
      (trunkOf s n).stopPending = false →
      ∃ t, exec (.countReply n (trunkFrame (found.length + 1) 1 [kind, slots, key]) lines) s = .next t ∧
        trunkOf t n =
          { trunkOf s n with attention := lines, exchange := some (.count (found ++ [⟨kind, slots, key⟩])) } ∧
        OtherTrunksKept n s t ∧ t = { s with trunks := t.trunks }) ∧
    (∀ found kind slots key, (trunkOf s n).exchange = some (.count found) → found.length + 1 = 30 →
      (trunkOf s n).stopPending = false → risingKeys s.dispatcher.panels = true →
      CountEnds (.countReply n (trunkFrame 30 1 [kind, slots, key]) lines) n lines (found ++ [⟨kind, slots, key⟩]) s) ∧
    (∀ k, (signAt s k).isSome = true → keyTrunk k = n → keyPosition k ≤ highestSign s n) ∧
    (highestSign s n = 0 ∨ ∃ k, (signAt s k).isSome = true ∧ keyTrunk k = n ∧ keyPosition k = highestSign s n) ∧
    (∀ p body r q g, 1 ≤ p → p ≤ 30 → (trunkOf s n).exchange = some (.query p) → (trunkOf s n).state = .running →
      risingKeys s.dispatcher.panels = true → panelAt s (32 * n + p) = some q → signAt s (32 * n + p) = some g →
      (trunkOf s n).stopPending = false → q.query = .adopt → body.length = 28 → readPanelStatus body = some r →
      let same := r.shown = some (compositionDigest g.desired)
      ∃ t q', exec (.queryReply n (trunkFrame p 2 body) lines) s = .next t ∧ panelAt t (32 * n + p) = some q' ∧
        q'.link = .present ∧ q'.awaiting = none ∧ q'.query = .none ∧ q'.failures = 0 ∧ q'.credit = q.credit ∧
        (same → q'.shown = some g.desired) ∧ (¬ same → q'.shown = none) ∧
        (∀ c ∈ [Condition.silent, .supply, .overdue], isLive t (.panel n p) c = false) ∧
        (same → isLive t (.panel n p) .mismatch = false ∧ isLive t (.panel n p) .panelFault = false) ∧
        signAt t (32 * n + p) = some g ∧ TrunkSideKept s t) ∧
    (∀ p body r, 1 ≤ p → p ≤ 30 → (trunkOf s n).exchange = some (.query p) → panelAt s (32 * n + p) = none →
      body.length = 28 → readPanelStatus body = some r →
      Discarded (.queryReply n (trunkFrame p 2 body) lines) n lines p s) ∧
    ∀ p body r q g, 1 ≤ p → p ≤ 30 → (trunkOf s n).exchange = some (.query p) →
      panelAt s (32 * n + p) = some q → signAt s (32 * n + p) = some g → body.length = 28 →
      readPanelStatus body = some r →
      let ends := fun (timers : Table Recovery) (u : State) (q' : Panel) =>
        ExchangeEnded (.queryReply n (trunkFrame p 2 body) lines) n lines timers p s u ∧ OutcomeKept n p s u ∧
          panelAt u (32 * n + p) = some q'
      let timers := (trunkOf s n).recovery
      (q.link = .blocked ∨ q.query = .adopt → q.mirror.length = 8 →
        let same := r.shown = some (compositionDigest g.desired)
        ∃ u q', ends (if q.link = .blocked then erase timers p else timers) u q' ∧ MembershipJudged q q' g ∧
          q' = { q with
            link := .present, shown := if same then some g.desired else none, awaiting := none, query := .none
            failures := 0, mirror := q'.mirror, queue := q'.queue } ∧
          (∀ x, x ∈ u.health.live ↔ x ∈ s.health.live ∧
            ¬ (x.object = .panel n p ∧ (x.condition ∈ [Condition.silent, .supply, .overdue] ∨
              same ∧ x.condition ∈ [Condition.mismatch, .panelFault]))) ∧
          q'.mirror.length = 8 ∧
          ∀ (i : Nat) (old : Slot) id d, q.mirror[i]? = some old → r.slots[i]? = some (id, d) →
            let fits := fun (x : Plate) => plateAt s id = some x ∧ x.state = .ready ∧ x.digest = d ∧ id ≠ 0 ∧
              ∀ j, j < i → r.slots[j]? ≠ some (id, d)
            (∀ x, fits x → q'.mirror[i]? = some ⟨.loaded id ((x.size + 63) / 64), s.now⟩) ∧
            ((∀ x, ¬ fits x) → q'.mirror[i]? = some ⟨.free, old.stamp⟩)) ∧
      (q.link ≠ .blocked → q.query = .overdue →
        (∀ w, q.awaiting = some w → r.shown = some (compositionDigest w.comp) →
          ∃ u q', ends timers u q' ∧ MembershipJudged q q' g ∧
            q' = { q with
              shown := some w.comp, awaiting := none, query := .none, failures := 0, queue := q'.queue
              mirror := q.mirror.map fun x => match slotPlate x with
                | some id => if id ∈ namedPlates w.comp then { x with stamp := s.now } else x
                | none => x } ∧
            ∀ x, x ∈ u.health.live ↔ x ∈ s.health.live ∧
              ¬ (x.object = .panel n p ∧ x.condition ∈ [Condition.overdue, .mismatch, .panelFault])) ∧
        (∀ w, q.awaiting = some w → r.shown ≠ some (compositionDigest w.comp) →
          ∃ u q', ends timers u q' ∧ MembershipJudged q q' g ∧ u.health = s.health ∧
            q' = { q with shown := none, awaiting := none, query := .none, failures := 0, queue := q'.queue }) ∧
        (q.awaiting = none →
          ∃ u q', ends timers u q' ∧ MembershipJudged q q' g ∧ u.health = s.health ∧
            q' = { q with query := .none, failures := 0, queue := q'.queue })) ∧
      (q.link ≠ .blocked → q.query = .none →
        ∃ u, ends timers u { q with failures := 0 } ∧ u.health = s.health)

/-- LOAD_ACK, SHOW_ANSWER and CALL_REPLY (R136, R137, R139, R141, R146, R147, R149, R150, R168, R169, R173): a run goes on,
is extended after its 8th block or ends; a SHOW is accepted or refused; a DONE, a FAULT, a SUPPLY and a KEY reach their
record, or none; an accepted KEY opens the sign's day list (R121); the outcome of an orphaned step, or of one whose record
is gone, is discarded (R152). That the row carries the attention lines (log 10), that the frame answers the exchange in
flight (log 13), that a slot released or made FREE keeps its stamp (log 22) and that a POOL_AVAILABLE comes before a HEALTH
notice of the same end (log 14) are the model's choices. -/
def Obligations.LoadShowAndCallReplies : Prop :=
  ∀ n lines s, Settled s → 1 ≤ n → n ≤ 4 → risingKeys s.dispatcher.panels = true →
  ((trunkOf s n).state = .running → (trunkOf s n).stopPending = false →
    (∀ r, (trunkOf s n).exchange = some (.load r) → 1 ≤ r.position → r.position ≤ 30 → r.first + r.acked < 65536 →
      let ack := trunkFrame r.position 3 (u16 (r.first + r.acked) ++ [1])
      let goesOn := fun (r' : LoadRun) =>
        ∃ t, exec (.loadAck n ack lines) s = .next t ∧
          trunkOf t n = { trunkOf s n with attention := lines, exchange := some (.load r') } ∧
          OtherTrunksKept n s t ∧ t = { s with trunks := t.trunks }
      (r.acked + 1 ≠ 8 → r.first + r.acked + 1 ≤ r.planned → goesOn { r with acked := r.acked + 1 }) ∧
      (r.acked = 7 → r.planned = r.first + 7 → r.first + 7 < r.groupEnd → anyAttention lines = false →
        goesOn { r with acked := 8, planned := r.groupEnd }) ∧
      (∀ d id blocks q p, r.planned = r.first + r.acked → (r.acked = 7 → r.groupEnd = r.planned) →
        (trunkOf s n).rewalkPending = true → (trunkOf s n).step = some d →
        d.kind = .feed r.slot id r.first blocks → d.orphaned = false → d.release = false → r.plate = id →
        1 ≤ r.slot → r.slot ≤ 8 → panelAt s (32 * n + r.position) = some q → q.mirror.length = 8 →
        (slotAt q.mirror r.slot).state = .filling id (r.first - 1) → 1 ≤ r.first → r.planned = blocks →
        plateAt s id = some p → p.state = .ready →
        ∃ t q' p', exec (.loadAck n ack lines) s = .next t ∧ (trunkOf t n).state = .counting ∧
          panelAt t (32 * n + r.position) = some q' ∧ slotAt q'.mirror r.slot = ⟨.loaded id blocks, s.now⟩ ∧
          plateAt t id = some p' ∧ p' = { p with inFlight := p.inFlight - 1 } ∧ TrunkSideKept s t)) ∧
    (∀ p c cost d q, (trunkOf s n).exchange = some (.showing p c) → 1 ≤ p → p ≤ 30 → (trunkOf s n).step = some d →
      d.kind = .showing c cost → d.orphaned = false → panelAt s (32 * n + p) = some q → q.link = .present →
      (∃ t q', exec (.showAnswer n (trunkFrame p 4 [0]) lines) s = .next t ∧ panelAt t (32 * n + p) = some q' ∧
        q'.credit = q.credit - cost ∧ q'.awaiting = some ⟨c, s.now, some (s.now + 8000)⟩ ∧ q'.shown = q.shown ∧
        q'.failures = 0 ∧ q'.link = .present ∧ TrunkSideKept s t) ∧
      (q.failures < 2 →
        ∃ t q', exec (.showAnswer n (trunkFrame p 4 [1]) lines) s = .next t ∧ panelAt t (32 * n + p) = some q' ∧
          q'.credit = q.credit ∧ q'.awaiting = q.awaiting ∧ q'.shown = q.shown ∧ q'.failures = q.failures + 1 ∧
          TrunkSideKept s t)) ∧
    ((trunkOf s n).exchange = some .call → ∀ p, 1 ≤ p → p ≤ 30 → p ≤ (trunkOf s n).chainCount →
      ∀ code hi lo q, panelAt s (32 * n + p) = some q →
      (∀ w, q.awaiting = some w → readDigest hi lo = compositionDigest w.comp →
        ∃ t q', exec (.callReply n (trunkFrame p 5 [BitVec.ofNat 8 p, 4, code, hi, lo]) lines) s = .next t ∧
          panelAt t (32 * n + p) = some q' ∧ q'.shown = some w.comp ∧ q'.awaiting = none ∧
          q'.query = (if q.query = .overdue then .none else q.query) ∧ q'.credit = q.credit ∧
          (∀ c ∈ [Condition.overdue, .mismatch, .panelFault], isLive t (.panel n p) c = false) ∧ TrunkSideKept s t) ∧
      (∀ g seg, signAt s (32 * n + p) = some g → g.role = .door seg true → q.link = .present → -1 ≤ q.credit →
        ∃ t g', exec (.callReply n (trunkFrame p 5 [BitVec.ofNat 8 p, 5, code, hi, lo]) lines) s = .next t ∧
          signAt t (32 * n + p) = some g' ∧ g'.view = some (s.now + 30000) ∧ g'.role = g.role ∧
          TrunkSideKept s t))) ∧
  (∀ r more, (trunkOf s n).exchange = some (.load r) → 1 ≤ r.position → r.position ≤ 30 → r.first + r.acked < 65536 →
    (more = false ∨ (trunkOf s n).stopPending = true ∨
      (r.planned ≤ r.first + r.acked ∧ ¬ (r.acked = 7 ∧ r.first + 7 < r.groupEnd ∧ anyAttention lines = false))) →
    RunEnds (.loadAck n (trunkFrame r.position 3 (u16 (r.first + r.acked) ++ flag more)) lines) n lines r (r.acked + 1)
      true s) ∧
  (∀ p c d, (trunkOf s n).exchange = some (.showing p c) → 1 ≤ p → p ≤ 30 → (trunkOf s n).step = some d →
    d.orphaned = true ∨ panelAt s (32 * n + p) = none →
    Discarded (.showAnswer n (trunkFrame p 4 [0]) lines) n lines (trunkOf s n).walkPosition s) ∧
  (∀ p c cost d q g, (trunkOf s n).exchange = some (.showing p c) → 1 ≤ p → p ≤ 30 → (trunkOf s n).step = some d →
    d.kind = .showing c cost → d.orphaned = false → panelAt s (32 * n + p) = some q →
    signAt s (32 * n + p) = some g →
    ∃ u q', ExchangeEnded (.showAnswer n (trunkFrame p 4 [0]) lines) n lines (trunkOf s n).recovery
        (trunkOf s n).walkPosition s u ∧
      OutcomeKept n p s u ∧ panelAt u (32 * n + p) = some q' ∧ u.health = s.health ∧ MembershipJudged q q' g ∧
      q' = { q with
        credit := q.credit - cost, awaiting := some ⟨c, s.now, some (s.now + 8000)⟩
        failures := if q.link = .blocked then q.failures else 0, queue := q'.queue }) ∧
  ((trunkOf s n).exchange = some .call → ∀ (p : Nat) (level code hi lo : Byte), p < 256 →
    let k := 32 * n + p
    let ends := fun (timers : Table Recovery) (u : State) =>
      ExchangeEnded (.callReply n (trunkFrame p 5 [BitVec.ofNat 8 p, level, code, hi, lo]) lines) n lines timers
        (trunkOf s n).walkPosition s u
    let timers := (trunkOf s n).recovery
    let discarded :=
      Discarded (.callReply n (trunkFrame p 5 [BitVec.ofNat 8 p, level, code, hi, lo]) lines) n lines
        (trunkOf s n).walkPosition s
    (p = 0 ∨ (trunkOf s n).chainCount < p ∨ panelAt s k = none ∧ p ≤ 30 → discarded) ∧
    (1 ≤ p → p ≤ 30 → p ≤ (trunkOf s n).chainCount → ∀ q g, panelAt s k = some q → signAt s k = some g →
      let raises := fun (c : Condition) (u : State) =>
        isLive u (.panel n p) c = true ∧ ∀ x, x ≠ ⟨.panel n p, c⟩ → (x ∈ u.health.live ↔ x ∈ s.health.live)
      (level = 4 → (∀ w, q.awaiting = some w → readDigest hi lo = compositionDigest w.comp →
        ∃ u q', ends timers u ∧ OutcomeKept n p s u ∧ panelAt u k = some q' ∧ MembershipJudged q q' g ∧
          q' = { q with
            shown := some w.comp, awaiting := none, query := if q.query = .overdue then .none else q.query
            queue := q'.queue
            mirror := q.mirror.map fun x => match slotPlate x with
              | some id => if id ∈ namedPlates w.comp then { x with stamp := s.now } else x
              | none => x } ∧
          ∀ x, x ∈ u.health.live ↔ x ∈ s.health.live ∧
            ¬ (x.object = .panel n p ∧ x.condition ∈ [Condition.overdue, .mismatch, .panelFault])) ∧
        (∀ w, q.awaiting = some w → readDigest hi lo ≠ compositionDigest w.comp →
          ∃ u q', ends timers u ∧ OutcomeKept n p s u ∧ panelAt u k = some q' ∧ MembershipJudged q q' g ∧
            raises .mismatch u ∧
            q' = { q with
              shown := none, awaiting := none, query := if q.query = .overdue then .none else q.query
              queue := q'.queue }) ∧
        (q.awaiting = none →
          ∃ u q', ends timers u ∧ OutcomeKept n p s u ∧ panelAt u k = some q' ∧ MembershipJudged q q' g ∧
            u.health = s.health ∧ q' = { q with shown := none, queue := q'.queue })) ∧
      (level = 5 → ¬ (q.link = .present ∧ -1 ≤ q.credit ∧ ∃ seg, g.role = .door seg true) →
        discarded) ∧
      (level = 5 → ∀ seg, g.role = .door seg true → q.link = .present → -1 ≤ q.credit →
        ∃ u g', ends timers u ∧ signAt u k = some g' ∧
          (∀ j, j ≠ k → signAt u j = signAt s j ∧ panelAt u j = panelAt s j) ∧ OtherTrunksKept n s u ∧
          (g.view = none → PanelHears s u k g g' ∧
            g' = { g with
              view := some (s.now + 30000), desired := compositionOf u g', primary := (signPrimary u g').map identity
              gone := [] }) ∧
          (g.view ≠ none → g' = { g with view := some (s.now + 30000) } ∧ panelAt u k = some q) ∧
          u = { s with
            resolver := { s.resolver with signs := u.resolver.signs }
            dispatcher := u.dispatcher
            trunks := u.trunks }) ∧
      (level = 6 →
        let slot := hi.toNat * 256 + lo.toNat
        let old := slotAt q.mirror slot
        let names := ∃ id w, slotPlate old = some id ∧ q.awaiting = some w ∧ id ∈ namedPlates w.comp
        ∃ u q', ends timers u ∧ OutcomeKept n p s u ∧ panelAt u k = some q' ∧ raises .panelFault u ∧
          (code ≠ 2 ∨ slot = 0 ∨ 8 < slot → q' = q) ∧
          (code = 2 → 1 ≤ slot → slot ≤ 8 →
            let freed : Panel := { q with mirror := q.mirror.set (slot - 1) ⟨.free, old.stamp⟩ }
            (¬ names → q' = freed) ∧
            (names → q' = { freed with shown := none, awaiting := none, queue := q'.queue } ∧
              MembershipJudged q q' g))) ∧
      (level = 7 →
        ∃ timers' u q', ends timers' u ∧ OutcomeKept n p s u ∧ panelAt u k = some q' ∧
          isLive u (.panel n p) .supply = true ∧
          (q.link = .blocked → q' = q ∧ timers' = timers) ∧ (q.link ≠ .blocked → Blocked n p timers' s u q q'))))

/-- TRUNK_REPLY_TIMEOUT (R136, R146, R147, R161–R163, R166, R169, R173): a failed QUERY, LOAD run or SHOW is counted, the
third in a row blocks the panel and starts its recovery timer; a failed recovery QUERY restarts it; a failed CALL hands
nothing; a COUNT that gets no reply ends with its count. A frame that is no good reply ends its exchange as a missing one
does (R161, R206). That the row carries the attention lines (log 10), that a slot a failed run releases keeps its stamp (log
22), and the order of the notices of one end (log 14) are the model's choices. -/
def Obligations.ReplyTimeouts : Prop :=
  ∀ n lines s, Settled s → 1 ≤ n → n ≤ 4 → risingKeys s.dispatcher.panels = true →
  ((trunkOf s n).stopPending = false →
    (∀ p q, (trunkOf s n).exchange = some (.query p) → (trunkOf s n).state = .running → 1 ≤ p → p ≤ 30 →
      panelAt s (32 * n + p) = some q → q.link ≠ .blocked →
      (q.failures < 2 →
        ∃ t q', exec (.trunkReplyTimeout n lines) s = .next t ∧ panelAt t (32 * n + p) = some q' ∧
          q'.failures = q.failures + 1 ∧ q'.link = q.link ∧ q'.credit = q.credit ∧ q'.query = q.query ∧
          TrunkSideKept s t) ∧
      (2 ≤ q.failures →
        ∃ t q', exec (.trunkReplyTimeout n lines) s = .next t ∧ panelAt t (32 * n + p) = some q' ∧
          q'.link = .blocked ∧ q'.queue = none ∧ q'.shown = none ∧ q'.awaiting = none ∧ q'.credit = q.credit ∧
          q'.mirror = q.mirror ∧ isLive t (.panel n p) .silent = true ∧
          lookup (trunkOf t n).recovery p = some (.running (s.now + 30000)) ∧ TrunkSideKept s t)) ∧
    ∀ found, (trunkOf s n).exchange = some (.count found) → CountEnds (.trunkReplyTimeout n lines) n lines found s) ∧
  (let missing := Instr.trunkReplyTimeout n lines
  let timers := (trunkOf s n).recovery
  let walk := (trunkOf s n).walkPosition
  let discarded := Discarded missing n lines walk s
  (∀ p, (trunkOf s n).exchange = some (.query p) → 1 ≤ p → p ≤ 30 → panelAt s (32 * n + p) = none →
    Discarded missing n lines p s) ∧
  (∀ p q, (trunkOf s n).exchange = some (.query p) → 1 ≤ p → p ≤ 30 → panelAt s (32 * n + p) = some q →
    ∃ timers' u q', ExchangeEnded missing n lines timers' p s u ∧ OutcomeKept n p s u ∧
      panelAt u (32 * n + p) = some q' ∧ (q.link ≠ .blocked → FailureCounted n p timers' s u q q') ∧
      (q.link = .blocked → q' = q ∧ u.health = s.health ∧
        timers' = if (trunkOf s n).state = .running then assign timers p (.running (s.now + 30000)) else timers)) ∧
  (∀ r, (trunkOf s n).exchange = some (.load r) → 1 ≤ r.position → r.position ≤ 30 →
    RunEnds missing n lines r r.acked false s) ∧
  (∀ p c d, (trunkOf s n).exchange = some (.showing p c) → 1 ≤ p → p ≤ 30 → (trunkOf s n).step = some d →
    (d.orphaned = true ∨ panelAt s (32 * n + p) = none → discarded) ∧
    (d.orphaned = false → ∀ q, panelAt s (32 * n + p) = some q →
      ∃ timers' u q', ExchangeEnded missing n lines timers' walk s u ∧ OutcomeKept n p s u ∧
      panelAt u (32 * n + p) = some q' ∧ FailureCounted n p timers' s u q q')) ∧
  ((trunkOf s n).exchange = some .call → discarded) ∧
  (∀ found frame, (trunkOf s n).exchange = some (.count found) →
    (∀ kind slots key, frame ≠ trunkFrame (found.length + 1) 1 [kind, slots, key]) →
    exec (.countReply n frame lines) s = exec missing s) ∧
  (∀ p frame, (trunkOf s n).exchange = some (.query p) →
    (∀ body, body.length = 28 → frame ≠ trunkFrame p 2 body) → exec (.queryReply n frame lines) s = exec missing s) ∧
  (∀ r frame, (trunkOf s n).exchange = some (.load r) →
    (∀ f : Byte, f.getLsbD 1 = false → frame ≠ trunkFrame r.position 3 (u16 (r.first + r.acked) ++ [f])) →
    exec (.loadAck n frame lines) s = exec missing s) ∧
  (∀ p c frame, (trunkOf s n).exchange = some (.showing p c) → frame ≠ trunkFrame p 4 [0] →
    exec (.showAnswer n frame lines) s = exec missing s) ∧
  ∀ frame, (trunkOf s n).exchange = some .call →
    (∀ p level code hi lo : Byte, frame = trunkFrame p.toNat 5 [p, level, code, hi, lo] →
      p = 0 ∨ (trunkOf s n).chainCount < p.toNat ∨ level.toNat < 4 ∨ 7 < level.toNat) →
    exec (.callReply n frame lines) s = exec missing s)

/-! ### Health Monitor -/

/-- HEALTH_ARM, HEALTH_CLEAR, HEALTH_SELECT and HEALTH_WINDOW (R188, R190, R194–R196): what each does and what refuses it. The
bytes of the HEALTH_CLEAR reply (log 19) and the ignored byte and mask bits of HEALTH_CLEAR (log 28) are the model's
choices. -/
def Obligations.HealthRequests : Prop :=
  ∀ tag s, tag ≠ 0 → Settled s →
    let refuses := fun (i : Instr) => exec i s = .next (answered tag (refusal .outOfRange) [] s)
    (∀ code, code ∉ [1, 2, 3] → refuses (.healthArm tag code)) ∧
    (∀ kind a b mask, (∀ o, objectOf kind a b = some o →
      let listed := allConditions.filter fun c => mask.testBit (conditionCode c - 1)
      listed = [] ∨ ∃ c ∈ listed, c ∉ conditionsOf o) → refuses (.healthClear tag kind a b mask)) ∧
    (∀ code v, code = 0 ∨ 10 < code ∨ 1 < v → refuses (.healthSelect tag code v)) ∧
    (∀ kind w, (kind ≠ 1 ∧ kind ≠ 2) ∨ w ∉ [4, 8, 16, 32] → refuses (.healthWindow tag kind w)) ∧
    (∀ code c, classOf code = some c →
      (classState s c = .disarmed →
        exec (.healthArm tag code) s = .next (answered tag (ok (u8 code ++ [1, 30])) []
          (setClassState c (.grace (s.now + 30000)) s))) ∧
      (classState s c ≠ .disarmed →
        exec (.healthArm tag code) s = .next (answered tag
          (ok (u8 code ++ u8 (classStateCode (classState s c)) ++ u8 (graceSeconds s.now (classState s c)))) [] s))) ∧
    (∀ kind a b mask o, objectOf kind a b = some o →
      let listed := allConditions.filter fun c => mask.testBit (conditionCode c - 1)
      listed ≠ [] → (∀ c ∈ listed, c ∈ conditionsOf o) →
      ∃ u, exec (.healthClear tag kind a b mask) s = .next (answered tag
          (ok (objectBytes o ++ u16 (maskOf (listed.filter fun c => isHeld s o c && !isLive s o c)) ++
            u16 (maskOf (listed.filter fun c => isHeld s o c && isLive s o c)))) [] u) ∧
        (∀ k, k ∈ u.health.held ↔
          k ∈ s.health.held ∧ ¬ (k.object = o ∧ k.condition ∈ listed ∧ k ∉ s.health.live)) ∧
        u.health.summary = (u.health.held.any fun k => !s.health.deselected.contains k.condition) ∧
        u = { s with health := { s.health with held := u.health.held, summary := u.health.summary } }) ∧
    (∀ code c v, conditionOf code = some c → v ≤ 1 →
      ∃ u, exec (.healthSelect tag code v) s =
          .next (answered tag (ok (allConditions.flatMap fun x => flag (isSelected u x))) [] u) ∧
        (∀ x, isSelected u x = if x = c then v == 1 else isSelected s x) ∧
        u.health.summary = (s.health.held.any fun k => isSelected u k.condition) ∧
        u = { s with health := { s.health with deselected := u.health.deselected, summary := u.health.summary } }) ∧
    ∀ w, w = 4 ∨ w = 8 ∨ w = 16 ∨ w = 32 →
      (s.health.wallSetting ≤ w ∨ s.health.layoutClass = .disarmed →
        exec (.healthWindow tag 1 w) s =
          .next (answered tag (ok (u8 1 ++ u8 w)) [] { s with health := { s.health with wallSetting := w } })) ∧
      (w < s.health.wallSetting → s.health.layoutClass ≠ .disarmed →
        exec (.healthWindow tag 1 w) s =
          .next (answered tag (adjusted (u8 1 ++ u8 s.health.wallSetting)) [] s)) ∧
      (s.health.lineSetting ≤ w ∨ s.health.trunkClass = .disarmed →
        exec (.healthWindow tag 2 w) s =
          .next (answered tag (ok (u8 2 ++ u8 w)) [] { s with health := { s.health with lineSetting := w } })) ∧
      (w < s.health.lineSetting → s.health.trunkClass ≠ .disarmed →
        exec (.healthWindow tag 2 w) s =
          .next (answered tag (adjusted (u8 2 ++ u8 s.health.lineSetting)) [] s))

/-- Flags, samples and grace (R175, R178, R183–R187, R189, R191–R193). A live flag that rises in an ARMED class sets its
held flag if that is clear and then gives one HEALTH notice if the condition is selected; a flag found as asked changes
nothing. WALL_SAMPLE, GRACE_END and PROBE_END: samples count, a full window is judged, its notices in the order of R198, and
a new one starts; the live flags of a class are held as its grace ends; a line test's result is a sample and a notice, the
change of LINE_SHORT that a full window makes takes the trunk into or out of FAULTED, and otherwise the trunk decides as at
the end of any exchange (R176). That the timebase stands at the instant at least (log 4), that a late row counts as its
instant (log 34), that the row carries the attention lines (log 10) and that the HEALTH notices of a window's end come
before PROBE_DONE (log 14) are the model's choices. -/
def Obligations.SamplesAndGrace : Prop :=
  (∀ o c s,
    let key : CondKey := ⟨o, c⟩
    let armed := classState s (conditionClass c) = .armed
    let moved := fun (u : State) (v : Bool) =>
      (∀ k, k ∈ u.health.live ↔ if k = key then v = true else k ∈ s.health.live) ∧
      u = { s with
        outbox := u.outbox
        health := { s.health with live := u.health.live, held := u.health.held, summary := u.health.summary } }
    (∀ v, isLive s o c = v → setLive o c v s = s) ∧
    (isLive s o c = true → moved (setLive o c false s) false ∧ (setLive o c false s).outbox = s.outbox ∧
      (setLive o c false s).health = { s.health with live := (setLive o c false s).health.live }) ∧
    (isLive s o c = false →
      let u := setLive o c true s
      moved u true ∧
      (¬ armed ∨ isHeld s o c = true → u.outbox = s.outbox ∧ u.health = { s.health with live := u.health.live }) ∧
      (armed → isHeld s o c = false →
        (∀ k, k ∈ u.health.held ↔ k = key ∨ k ∈ s.health.held) ∧
        u.health.summary = (u.health.held.any fun k => isSelected s k.condition) ∧
        u.outbox = (if isSelected s c = true then s.outbox ++ [.health o c true true (latestK s o c)] else s.outbox)))) ∧
  ∀ s, Settled s →
    (let w := s.health.wallWindows
    let count := fun (i : Nat) => lookupD w.counts i 0 + (if conflictSample s i then 1 else 0)
    (w.taken + 1 < w.length →
      ∃ counts, exec .wallSample s = .next
          { s with
            now := max s.now s.nextSample
            nextSample := s.nextSample + 1000
            health := { s.health with wallWindows := ⟨w.length, w.taken + 1, counts⟩ } } ∧
        ∀ i, 1 ≤ i → i ≤ 32 → lookupD counts i 0 = count i) ∧
    (w.length ≤ w.taken + 1 →
      let conflicts := (upTo 32).map fun i => (⟨.wall i, .wallConflict⟩ : CondKey)
      ∃ t, exec .wallSample s = .next t ∧ t.health.wallWindows = ⟨s.health.wallSetting, 0, []⟩ ∧
        t.now = max s.now s.nextSample ∧ t.nextSample = s.nextSample + 1000 ∧
        (∀ i, 1 ≤ i → i ≤ 32 → isLive t (.wall i) .wallConflict =
          if 2 * count i > w.length then true
          else if 4 * count i ≤ w.length then false
          else isLive s (.wall i) .wallConflict) ∧
        (∀ k, k ∉ conflicts → (k ∈ t.health.live ↔ k ∈ s.health.live)) ∧ (∀ k, HeldFollows s t k) ∧
        t.link = linkAfter (raised s t conflicts) s ∧
        t = { s with
          now := t.now
          nextSample := t.nextSample
          link := t.link
          health :=
            { s.health with
              live := t.health.live
              held := t.health.held
              summary := t.health.summary
              wallWindows := t.health.wallWindows } })) ∧
    (∀ c ends, classState s c = .grace ends →
      ∃ t, exec (.graceEnd c) s = .next t ∧ classState t c = .armed ∧ t.health.live = s.health.live ∧
        (∀ k, k ∈ t.health.held ↔ k ∈ s.health.held ∨ (k ∈ s.health.live ∧ conditionClass k.condition = c)) ∧
        t.link = linkAfter
          ((s.health.live.filter fun k => conditionClass k.condition == c && isSelected s k.condition).map fun k =>
            .health k.object k.condition true true (latestK s k.object k.condition)) s ∧
        t = { s with
          now := max s.now ends
          link := t.link
          health :=
            { (setClassState c .armed s).health with held := t.health.held, summary := t.health.summary } }) ∧
    ∀ n r lines, 1 ≤ n → n ≤ 4 → (trunkOf s n).exchange = some .probe →
      let x := trunkOf s n
      let w := lineWindowOf s n
      let short := w.short + (if r = .short then 1 else 0)
      let opens := w.opens + (match r with
        | .openAt _ => 1
        | .ok => 0
        | .short => 0)
      let latest := match r with
        | .openAt k => k
        | .ok => w.latestK
        | .short => w.latestK
      let judged := fun (c : Condition) (count : Nat) =>
        if w.length ≤ w.taken + 1 ∧ 2 * count > w.length then true
        else if w.length ≤ w.taken + 1 ∧ 4 * count ≤ w.length then false
        else isLive s (.trunk n) c
      let rises := x.state = .running ∧ isLive s (.trunk n) .lineShort = false ∧ judged .lineShort short = true
      let mends := x.state = .faulted ∧ isLive s (.trunk n) .lineShort = true ∧ judged .lineShort short = false ∧
        x.stopPending = false
      let records : List CondKey := [⟨.trunk n, .lineShort⟩, ⟨.trunk n, .lineOpen⟩]
      ∃ u t wake, exec (.probeEnd n r lines) s = .next t ∧
        trunkOf u n = { x with attention := lines, exchange := none, wake := wake } ∧ OtherTrunksKept n s u ∧
        lineWindowOf u n =
          (if w.length ≤ w.taken + 1 then ⟨s.health.lineSetting, 0, 0, 0, latest⟩
          else { w with taken := w.taken + 1, short := short, opens := opens, latestK := latest }) ∧
        (∀ i, i ≠ n → lineWindowOf u i = lineWindowOf s i) ∧
        isLive u (.trunk n) .lineShort = judged .lineShort short ∧
        isLive u (.trunk n) .lineOpen = judged .lineOpen opens ∧
        (∀ k, k ∉ records → (k ∈ u.health.live ↔ k ∈ s.health.live)) ∧ (∀ k, HeldFollows s u k) ∧
        u.outbox = raised s u records ++ [.probeDone n r] ∧
        u = { s with
          outbox := u.outbox
          trunks := u.trunks
          health :=
            { s.health with
              live := u.health.live
              held := u.health.held
              summary := u.health.summary
              lineWindows := u.health.lineWindows } } ∧
        t.link = linkAfter u.outbox s ∧ lineWindowOf t n = lineWindowOf u n ∧
        (∀ c ∈ [Condition.lineShort, .lineOpen], isLive t (.trunk n) c = isLive u (.trunk n) c) ∧ TrunkSideKept s t ∧
        (¬ rises → ¬ mends → t = flush (decideNext n u)) ∧
        (rises →
          let faulted : Trunk :=
            { trunkOf u n with
              state := .faulted, rewalkPending := false
              probeInterval := some (x.probeInterval.getD (s.now + 10000)) }
          (∃ v, OnlyTrunk n faulted u v ∧ t = flush (decideNext n v)) ∧
          (x.stopPending = false →
            trunkOf t n =
              { faulted with
                step := none, probeDue := false, exchange := if x.probeDue then some .probe else none, wake := false })) ∧
        (mends →
          trunkOf t n =
            { x with
              state := .counting, rewalkPending := false, attention := lines, walkPosition := 0, step := none
              exchange := some (.count []), wake := false, probeInterval := if x.probing then x.probeInterval else none })

/-- Every step keeps the summary true exactly while a held flag of a selected condition is set, held flags to ARMED classes,
every live flag of an ARMED class held, and the two lists of records in the order of R198, no record twice (R192, R196,
R198). -/
def Obligations.HealthLawfulKept : Prop := ∀ s t, HealthLawful s → step s = .next t → HealthLawful t

/-- RESTART SIGNS (R17, R94, R125, R154, R180, R199): the clock, the table, the layout, the sense modes and the doors-closed
copies stay; every panel record starts anew, every trunk record takes the values of R179 with its probing kept, every trunk
that had been started walks again, no run and no DOOMED plate is left, the free count is judged, every sign is resolved and
every mismatch value evaluated, and the panel and trunk flags are clear, with fresh line windows; wall flags stay, and hall
flags but for those evaluations. A POOL_AVAILABLE and the notices of a LAYOUT_MISMATCH that rises follow the reply (R12,
R90, R192). That the blocks restart in one order is the model's choice (log 14), and so is that every slot's stamp is the
instant of the restart (log 22). -/
def Obligations.RestartSignsStartsAnew : Prop :=
  ∀ tag s, tag ≠ 0 → Settled s →
    ∃ after u, exec (.restartSigns tag) s = .next (answered tag (ok [2]) after u) ∧
      u.now = s.now ∧ u.nextSample = s.nextSample ∧ u.nextAccrual = s.nextAccrual ∧ u.pins = s.pins ∧ u.link = s.link ∧
      u.pending = s.pending ∧ u.clock = s.clock ∧ u.table = s.table ∧ u.layout = s.layout ∧
      u.sense.doors = s.sense.doors ∧ u.sense.reconfiguring = s.sense.reconfiguring ∧ LinesKept [] s u ∧
      u.plates.pool = s.plates.pool ∧ u.plates.settings = s.plates.settings ∧
      (∀ id p, plateAt u id = some p → p.inFlight = 0 ∧ p.state ≠ .doomed) ∧
      (risingKeys s.plates.plates = true → ∀ id, plateAt u id = (plateAt s id).bind fun p =>
        if p.state = .doomed then none else some { p with inFlight := 0 }) ∧
      (let freed := ((s.plates.plates.filter fun e => e.2.state == .doomed).map fun e => e.2.pages.length).sum
      u.plates.freeCount = s.plates.freeCount + freed ∧
        (freed = 0 → u.plates.watch = s.plates.watch) ∧
        (freed ≠ 0 → u.plates.watch = match s.plates.watch with
          | some n => if n ≤ s.plates.freeCount + freed then none else some n
          | none => none)) ∧
      u.resolver.doors = s.resolver.doors ∧ MismatchesEvaluated u ∧
      (∃ ns, after = poolTold s u ++ ns ∧ MismatchHeard (isListed s.layout.halls) ns s u) ∧
      (∀ k, (∃ w, k.object = .wall w) ∨ (∃ h, k.object = .hall h ∧ k.condition ≠ .layoutMismatch) →
        (k ∈ u.health.live ↔ k ∈ s.health.live) ∧ (k ∈ u.health.held ↔ k ∈ s.health.held)) ∧
      SignsResolved u ∧ (∀ k g, signAt u k = some g → g.view = none) ∧
      (∀ k, (signAt u k).map (fun g => g.role) = (signAt s k).map fun g => g.role) ∧
      (∀ k, panelAt u k = (panelAt s k).map fun _ =>
        ⟨.absent, none, none, .none, 8, 0, List.replicate 8 ⟨.free, s.now⟩, none⟩) ∧
      (∀ n, 1 ≤ n → n ≤ 4 →
        lineWindowOf u n = ⟨s.health.lineSetting, 0, 0, 0, 0⟩ ∧
        let x := trunkOf s n
        trunkOf u n =
          if x.state ≠ .off ∧ x.stopPending = false then
            { state := .counting, probing := x.probing, stopPending := false, rewalkPending := false, chainCount := 0
              chainTable := [], walkPosition := 0, exchange := some (.count []), step := none, probeDue := false
              probeInterval := if x.probing then some (s.now + 10000) else none, recovery := []
              attention := x.attention, wake := false }
          else
            { state := .off, probing := x.probing, stopPending := false, rewalkPending := false, chainCount := 0
              chainTable := [], walkPosition := 0, exchange := none, step := none, probeDue := false
              probeInterval := none, recovery := [], attention := x.attention, wake := false }) ∧
      (∀ k, k ∈ u.health.live ∨ k ∈ u.health.held → (∃ w, k.object = .wall w) ∨ ∃ h, k.object = .hall h) ∧
      u.health.panelClass = s.health.panelClass ∧ u.health.trunkClass = s.health.trunkClass ∧
      u.health.layoutClass = s.health.layoutClass ∧ u.health.deselected = s.health.deselected ∧
      u.health.wallWindows = s.health.wallWindows ∧ u.health.wallSetting = s.health.wallSetting ∧
      u.health.lineSetting = s.health.lineSetting

end
end

