-- ==== Sys2Proof/Laws/State.lean ====
section
/-! SUPPORT. One lemma per field for each named update of the state. -/

namespace Sys2Proof.Machine

variable (s : State)

/-! ### setTrunk -/

@[simp] theorem setTrunk_pending (t : Nat) (x : Trunk) : (setTrunk t x s).pending = s.pending := rfl
@[simp] theorem setTrunk_now (t : Nat) (x : Trunk) : (setTrunk t x s).now = s.now := rfl
@[simp] theorem setTrunk_nextSample (t : Nat) (x : Trunk) : (setTrunk t x s).nextSample = s.nextSample := rfl
@[simp] theorem setTrunk_nextAccrual (t : Nat) (x : Trunk) : (setTrunk t x s).nextAccrual = s.nextAccrual := rfl
@[simp] theorem setTrunk_outbox (t : Nat) (x : Trunk) : (setTrunk t x s).outbox = s.outbox := rfl
@[simp] theorem setTrunk_pins (t : Nat) (x : Trunk) : (setTrunk t x s).pins = s.pins := rfl
@[simp] theorem setTrunk_link (t : Nat) (x : Trunk) : (setTrunk t x s).link = s.link := rfl
@[simp] theorem setTrunk_clock (t : Nat) (x : Trunk) : (setTrunk t x s).clock = s.clock := rfl
@[simp] theorem setTrunk_table (t : Nat) (x : Trunk) : (setTrunk t x s).table = s.table := rfl
@[simp] theorem setTrunk_layout (t : Nat) (x : Trunk) : (setTrunk t x s).layout = s.layout := rfl
@[simp] theorem setTrunk_sense (t : Nat) (x : Trunk) : (setTrunk t x s).sense = s.sense := rfl
@[simp] theorem setTrunk_plates (t : Nat) (x : Trunk) : (setTrunk t x s).plates = s.plates := rfl
@[simp] theorem setTrunk_resolver (t : Nat) (x : Trunk) : (setTrunk t x s).resolver = s.resolver := rfl
@[simp] theorem setTrunk_dispatcher (t : Nat) (x : Trunk) : (setTrunk t x s).dispatcher = s.dispatcher := rfl
@[simp] theorem setTrunk_health (t : Nat) (x : Trunk) : (setTrunk t x s).health = s.health := rfl

/-! ### modifyTrunk -/

@[simp] theorem modifyTrunk_pending (t : Nat) (f : Trunk → Trunk) : (modifyTrunk t f s).pending = s.pending := rfl
@[simp] theorem modifyTrunk_now (t : Nat) (f : Trunk → Trunk) : (modifyTrunk t f s).now = s.now := rfl
@[simp] theorem modifyTrunk_nextSample (t : Nat) (f : Trunk → Trunk) : (modifyTrunk t f s).nextSample = s.nextSample := rfl
@[simp] theorem modifyTrunk_nextAccrual (t : Nat) (f : Trunk → Trunk) : (modifyTrunk t f s).nextAccrual = s.nextAccrual := rfl
@[simp] theorem modifyTrunk_outbox (t : Nat) (f : Trunk → Trunk) : (modifyTrunk t f s).outbox = s.outbox := rfl
@[simp] theorem modifyTrunk_pins (t : Nat) (f : Trunk → Trunk) : (modifyTrunk t f s).pins = s.pins := rfl
@[simp] theorem modifyTrunk_link (t : Nat) (f : Trunk → Trunk) : (modifyTrunk t f s).link = s.link := rfl
@[simp] theorem modifyTrunk_clock (t : Nat) (f : Trunk → Trunk) : (modifyTrunk t f s).clock = s.clock := rfl
@[simp] theorem modifyTrunk_table (t : Nat) (f : Trunk → Trunk) : (modifyTrunk t f s).table = s.table := rfl
@[simp] theorem modifyTrunk_layout (t : Nat) (f : Trunk → Trunk) : (modifyTrunk t f s).layout = s.layout := rfl
@[simp] theorem modifyTrunk_sense (t : Nat) (f : Trunk → Trunk) : (modifyTrunk t f s).sense = s.sense := rfl
@[simp] theorem modifyTrunk_plates (t : Nat) (f : Trunk → Trunk) : (modifyTrunk t f s).plates = s.plates := rfl
@[simp] theorem modifyTrunk_resolver (t : Nat) (f : Trunk → Trunk) : (modifyTrunk t f s).resolver = s.resolver := rfl
@[simp] theorem modifyTrunk_dispatcher (t : Nat) (f : Trunk → Trunk) : (modifyTrunk t f s).dispatcher = s.dispatcher := rfl
@[simp] theorem modifyTrunk_health (t : Nat) (f : Trunk → Trunk) : (modifyTrunk t f s).health = s.health := rfl

/-! ### wakeTrunk -/

@[simp] theorem wakeTrunk_pending (t : Nat) : (wakeTrunk t s).pending = s.pending := rfl
@[simp] theorem wakeTrunk_now (t : Nat) : (wakeTrunk t s).now = s.now := rfl
@[simp] theorem wakeTrunk_nextSample (t : Nat) : (wakeTrunk t s).nextSample = s.nextSample := rfl
@[simp] theorem wakeTrunk_nextAccrual (t : Nat) : (wakeTrunk t s).nextAccrual = s.nextAccrual := rfl
@[simp] theorem wakeTrunk_outbox (t : Nat) : (wakeTrunk t s).outbox = s.outbox := rfl
@[simp] theorem wakeTrunk_pins (t : Nat) : (wakeTrunk t s).pins = s.pins := rfl
@[simp] theorem wakeTrunk_link (t : Nat) : (wakeTrunk t s).link = s.link := rfl
@[simp] theorem wakeTrunk_clock (t : Nat) : (wakeTrunk t s).clock = s.clock := rfl
@[simp] theorem wakeTrunk_table (t : Nat) : (wakeTrunk t s).table = s.table := rfl
@[simp] theorem wakeTrunk_layout (t : Nat) : (wakeTrunk t s).layout = s.layout := rfl
@[simp] theorem wakeTrunk_sense (t : Nat) : (wakeTrunk t s).sense = s.sense := rfl
@[simp] theorem wakeTrunk_plates (t : Nat) : (wakeTrunk t s).plates = s.plates := rfl
@[simp] theorem wakeTrunk_resolver (t : Nat) : (wakeTrunk t s).resolver = s.resolver := rfl
@[simp] theorem wakeTrunk_dispatcher (t : Nat) : (wakeTrunk t s).dispatcher = s.dispatcher := rfl
@[simp] theorem wakeTrunk_health (t : Nat) : (wakeTrunk t s).health = s.health := rfl

/-! ### setExchange -/

@[simp] theorem setExchange_pending (t : Nat) (e : Option Exchange) : (setExchange t e s).pending = s.pending := rfl
@[simp] theorem setExchange_now (t : Nat) (e : Option Exchange) : (setExchange t e s).now = s.now := rfl
@[simp] theorem setExchange_nextSample (t : Nat) (e : Option Exchange) : (setExchange t e s).nextSample = s.nextSample := rfl
@[simp] theorem setExchange_nextAccrual (t : Nat) (e : Option Exchange) : (setExchange t e s).nextAccrual = s.nextAccrual := rfl
@[simp] theorem setExchange_outbox (t : Nat) (e : Option Exchange) : (setExchange t e s).outbox = s.outbox := rfl
@[simp] theorem setExchange_pins (t : Nat) (e : Option Exchange) : (setExchange t e s).pins = s.pins := rfl
@[simp] theorem setExchange_link (t : Nat) (e : Option Exchange) : (setExchange t e s).link = s.link := rfl
@[simp] theorem setExchange_clock (t : Nat) (e : Option Exchange) : (setExchange t e s).clock = s.clock := rfl
@[simp] theorem setExchange_table (t : Nat) (e : Option Exchange) : (setExchange t e s).table = s.table := rfl
@[simp] theorem setExchange_layout (t : Nat) (e : Option Exchange) : (setExchange t e s).layout = s.layout := rfl
@[simp] theorem setExchange_sense (t : Nat) (e : Option Exchange) : (setExchange t e s).sense = s.sense := rfl
@[simp] theorem setExchange_plates (t : Nat) (e : Option Exchange) : (setExchange t e s).plates = s.plates := rfl
@[simp] theorem setExchange_resolver (t : Nat) (e : Option Exchange) : (setExchange t e s).resolver = s.resolver := rfl
@[simp] theorem setExchange_dispatcher (t : Nat) (e : Option Exchange) : (setExchange t e s).dispatcher = s.dispatcher := rfl
@[simp] theorem setExchange_health (t : Nat) (e : Option Exchange) : (setExchange t e s).health = s.health := rfl

/-! ### dropStep -/

@[simp] theorem dropStep_pending (t : Nat) : (dropStep t s).pending = s.pending := rfl
@[simp] theorem dropStep_now (t : Nat) : (dropStep t s).now = s.now := rfl
@[simp] theorem dropStep_nextSample (t : Nat) : (dropStep t s).nextSample = s.nextSample := rfl
@[simp] theorem dropStep_nextAccrual (t : Nat) : (dropStep t s).nextAccrual = s.nextAccrual := rfl
@[simp] theorem dropStep_outbox (t : Nat) : (dropStep t s).outbox = s.outbox := rfl
@[simp] theorem dropStep_pins (t : Nat) : (dropStep t s).pins = s.pins := rfl
@[simp] theorem dropStep_link (t : Nat) : (dropStep t s).link = s.link := rfl
@[simp] theorem dropStep_clock (t : Nat) : (dropStep t s).clock = s.clock := rfl
@[simp] theorem dropStep_table (t : Nat) : (dropStep t s).table = s.table := rfl
@[simp] theorem dropStep_layout (t : Nat) : (dropStep t s).layout = s.layout := rfl
@[simp] theorem dropStep_sense (t : Nat) : (dropStep t s).sense = s.sense := rfl
@[simp] theorem dropStep_plates (t : Nat) : (dropStep t s).plates = s.plates := rfl
@[simp] theorem dropStep_resolver (t : Nat) : (dropStep t s).resolver = s.resolver := rfl
@[simp] theorem dropStep_dispatcher (t : Nat) : (dropStep t s).dispatcher = s.dispatcher := rfl
@[simp] theorem dropStep_health (t : Nat) : (dropStep t s).health = s.health := rfl

/-! ### setLine -/

@[simp] theorem setLine_pending (l : Nat) (x : Line) : (setLine l x s).pending = s.pending := rfl
@[simp] theorem setLine_now (l : Nat) (x : Line) : (setLine l x s).now = s.now := rfl
@[simp] theorem setLine_nextSample (l : Nat) (x : Line) : (setLine l x s).nextSample = s.nextSample := rfl
@[simp] theorem setLine_nextAccrual (l : Nat) (x : Line) : (setLine l x s).nextAccrual = s.nextAccrual := rfl
@[simp] theorem setLine_outbox (l : Nat) (x : Line) : (setLine l x s).outbox = s.outbox := rfl
@[simp] theorem setLine_pins (l : Nat) (x : Line) : (setLine l x s).pins = s.pins := rfl
@[simp] theorem setLine_link (l : Nat) (x : Line) : (setLine l x s).link = s.link := rfl
@[simp] theorem setLine_clock (l : Nat) (x : Line) : (setLine l x s).clock = s.clock := rfl
@[simp] theorem setLine_table (l : Nat) (x : Line) : (setLine l x s).table = s.table := rfl
@[simp] theorem setLine_layout (l : Nat) (x : Line) : (setLine l x s).layout = s.layout := rfl
@[simp] theorem setLine_plates (l : Nat) (x : Line) : (setLine l x s).plates = s.plates := rfl
@[simp] theorem setLine_resolver (l : Nat) (x : Line) : (setLine l x s).resolver = s.resolver := rfl
@[simp] theorem setLine_dispatcher (l : Nat) (x : Line) : (setLine l x s).dispatcher = s.dispatcher := rfl
@[simp] theorem setLine_trunks (l : Nat) (x : Line) : (setLine l x s).trunks = s.trunks := rfl
@[simp] theorem setLine_health (l : Nat) (x : Line) : (setLine l x s).health = s.health := rfl

/-! ### setSign -/

@[simp] theorem setSign_pending (k : Nat) (x : Sign) : (setSign k x s).pending = s.pending := rfl
@[simp] theorem setSign_now (k : Nat) (x : Sign) : (setSign k x s).now = s.now := rfl
@[simp] theorem setSign_nextSample (k : Nat) (x : Sign) : (setSign k x s).nextSample = s.nextSample := rfl
@[simp] theorem setSign_nextAccrual (k : Nat) (x : Sign) : (setSign k x s).nextAccrual = s.nextAccrual := rfl
@[simp] theorem setSign_outbox (k : Nat) (x : Sign) : (setSign k x s).outbox = s.outbox := rfl
@[simp] theorem setSign_pins (k : Nat) (x : Sign) : (setSign k x s).pins = s.pins := rfl
@[simp] theorem setSign_link (k : Nat) (x : Sign) : (setSign k x s).link = s.link := rfl
@[simp] theorem setSign_clock (k : Nat) (x : Sign) : (setSign k x s).clock = s.clock := rfl
@[simp] theorem setSign_table (k : Nat) (x : Sign) : (setSign k x s).table = s.table := rfl
@[simp] theorem setSign_layout (k : Nat) (x : Sign) : (setSign k x s).layout = s.layout := rfl
@[simp] theorem setSign_sense (k : Nat) (x : Sign) : (setSign k x s).sense = s.sense := rfl
@[simp] theorem setSign_plates (k : Nat) (x : Sign) : (setSign k x s).plates = s.plates := rfl
@[simp] theorem setSign_dispatcher (k : Nat) (x : Sign) : (setSign k x s).dispatcher = s.dispatcher := rfl
@[simp] theorem setSign_trunks (k : Nat) (x : Sign) : (setSign k x s).trunks = s.trunks := rfl
@[simp] theorem setSign_health (k : Nat) (x : Sign) : (setSign k x s).health = s.health := rfl

/-! ### setPanel -/

@[simp] theorem setPanel_pending (k : Nat) (x : Panel) : (setPanel k x s).pending = s.pending := rfl
@[simp] theorem setPanel_now (k : Nat) (x : Panel) : (setPanel k x s).now = s.now := rfl
@[simp] theorem setPanel_nextSample (k : Nat) (x : Panel) : (setPanel k x s).nextSample = s.nextSample := rfl
@[simp] theorem setPanel_nextAccrual (k : Nat) (x : Panel) : (setPanel k x s).nextAccrual = s.nextAccrual := rfl
@[simp] theorem setPanel_outbox (k : Nat) (x : Panel) : (setPanel k x s).outbox = s.outbox := rfl
@[simp] theorem setPanel_pins (k : Nat) (x : Panel) : (setPanel k x s).pins = s.pins := rfl
@[simp] theorem setPanel_link (k : Nat) (x : Panel) : (setPanel k x s).link = s.link := rfl
@[simp] theorem setPanel_clock (k : Nat) (x : Panel) : (setPanel k x s).clock = s.clock := rfl
@[simp] theorem setPanel_table (k : Nat) (x : Panel) : (setPanel k x s).table = s.table := rfl
@[simp] theorem setPanel_layout (k : Nat) (x : Panel) : (setPanel k x s).layout = s.layout := rfl
@[simp] theorem setPanel_sense (k : Nat) (x : Panel) : (setPanel k x s).sense = s.sense := rfl
@[simp] theorem setPanel_plates (k : Nat) (x : Panel) : (setPanel k x s).plates = s.plates := rfl
@[simp] theorem setPanel_resolver (k : Nat) (x : Panel) : (setPanel k x s).resolver = s.resolver := rfl
@[simp] theorem setPanel_trunks (k : Nat) (x : Panel) : (setPanel k x s).trunks = s.trunks := rfl
@[simp] theorem setPanel_health (k : Nat) (x : Panel) : (setPanel k x s).health = s.health := rfl

/-! ### setPlate -/

@[simp] theorem setPlate_pending (i : Nat) (x : Plate) : (setPlate i x s).pending = s.pending := rfl
@[simp] theorem setPlate_now (i : Nat) (x : Plate) : (setPlate i x s).now = s.now := rfl
@[simp] theorem setPlate_nextSample (i : Nat) (x : Plate) : (setPlate i x s).nextSample = s.nextSample := rfl
@[simp] theorem setPlate_nextAccrual (i : Nat) (x : Plate) : (setPlate i x s).nextAccrual = s.nextAccrual := rfl
@[simp] theorem setPlate_outbox (i : Nat) (x : Plate) : (setPlate i x s).outbox = s.outbox := rfl
@[simp] theorem setPlate_pins (i : Nat) (x : Plate) : (setPlate i x s).pins = s.pins := rfl
@[simp] theorem setPlate_link (i : Nat) (x : Plate) : (setPlate i x s).link = s.link := rfl
@[simp] theorem setPlate_clock (i : Nat) (x : Plate) : (setPlate i x s).clock = s.clock := rfl
@[simp] theorem setPlate_table (i : Nat) (x : Plate) : (setPlate i x s).table = s.table := rfl
@[simp] theorem setPlate_layout (i : Nat) (x : Plate) : (setPlate i x s).layout = s.layout := rfl
@[simp] theorem setPlate_sense (i : Nat) (x : Plate) : (setPlate i x s).sense = s.sense := rfl
@[simp] theorem setPlate_resolver (i : Nat) (x : Plate) : (setPlate i x s).resolver = s.resolver := rfl
@[simp] theorem setPlate_dispatcher (i : Nat) (x : Plate) : (setPlate i x s).dispatcher = s.dispatcher := rfl
@[simp] theorem setPlate_trunks (i : Nat) (x : Plate) : (setPlate i x s).trunks = s.trunks := rfl
@[simp] theorem setPlate_health (i : Nat) (x : Plate) : (setPlate i x s).health = s.health := rfl

/-! ### mapPlates -/

@[simp] theorem mapPlates_pending (f : Nat → Plate → Plate) : (mapPlates f s).pending = s.pending := rfl
@[simp] theorem mapPlates_now (f : Nat → Plate → Plate) : (mapPlates f s).now = s.now := rfl
@[simp] theorem mapPlates_nextSample (f : Nat → Plate → Plate) : (mapPlates f s).nextSample = s.nextSample := rfl
@[simp] theorem mapPlates_nextAccrual (f : Nat → Plate → Plate) : (mapPlates f s).nextAccrual = s.nextAccrual := rfl
@[simp] theorem mapPlates_outbox (f : Nat → Plate → Plate) : (mapPlates f s).outbox = s.outbox := rfl
@[simp] theorem mapPlates_pins (f : Nat → Plate → Plate) : (mapPlates f s).pins = s.pins := rfl
@[simp] theorem mapPlates_link (f : Nat → Plate → Plate) : (mapPlates f s).link = s.link := rfl
@[simp] theorem mapPlates_clock (f : Nat → Plate → Plate) : (mapPlates f s).clock = s.clock := rfl
@[simp] theorem mapPlates_table (f : Nat → Plate → Plate) : (mapPlates f s).table = s.table := rfl
@[simp] theorem mapPlates_layout (f : Nat → Plate → Plate) : (mapPlates f s).layout = s.layout := rfl
@[simp] theorem mapPlates_sense (f : Nat → Plate → Plate) : (mapPlates f s).sense = s.sense := rfl
@[simp] theorem mapPlates_resolver (f : Nat → Plate → Plate) : (mapPlates f s).resolver = s.resolver := rfl
@[simp] theorem mapPlates_dispatcher (f : Nat → Plate → Plate) : (mapPlates f s).dispatcher = s.dispatcher := rfl
@[simp] theorem mapPlates_trunks (f : Nat → Plate → Plate) : (mapPlates f s).trunks = s.trunks := rfl
@[simp] theorem mapPlates_health (f : Nat → Plate → Plate) : (mapPlates f s).health = s.health := rfl

/-! ### setWatch -/

@[simp] theorem setWatch_pending (w : Option Nat) : (setWatch w s).pending = s.pending := rfl
@[simp] theorem setWatch_now (w : Option Nat) : (setWatch w s).now = s.now := rfl
@[simp] theorem setWatch_nextSample (w : Option Nat) : (setWatch w s).nextSample = s.nextSample := rfl
@[simp] theorem setWatch_nextAccrual (w : Option Nat) : (setWatch w s).nextAccrual = s.nextAccrual := rfl
@[simp] theorem setWatch_outbox (w : Option Nat) : (setWatch w s).outbox = s.outbox := rfl
@[simp] theorem setWatch_pins (w : Option Nat) : (setWatch w s).pins = s.pins := rfl
@[simp] theorem setWatch_link (w : Option Nat) : (setWatch w s).link = s.link := rfl
@[simp] theorem setWatch_clock (w : Option Nat) : (setWatch w s).clock = s.clock := rfl
@[simp] theorem setWatch_table (w : Option Nat) : (setWatch w s).table = s.table := rfl
@[simp] theorem setWatch_layout (w : Option Nat) : (setWatch w s).layout = s.layout := rfl
@[simp] theorem setWatch_sense (w : Option Nat) : (setWatch w s).sense = s.sense := rfl
@[simp] theorem setWatch_resolver (w : Option Nat) : (setWatch w s).resolver = s.resolver := rfl
@[simp] theorem setWatch_dispatcher (w : Option Nat) : (setWatch w s).dispatcher = s.dispatcher := rfl
@[simp] theorem setWatch_trunks (w : Option Nat) : (setWatch w s).trunks = s.trunks := rfl
@[simp] theorem setWatch_health (w : Option Nat) : (setWatch w s).health = s.health := rfl

/-! ### setHall -/

@[simp] theorem setHall_pending (h : Nat) (x : Hall) : (setHall h x s).pending = s.pending := rfl
@[simp] theorem setHall_now (h : Nat) (x : Hall) : (setHall h x s).now = s.now := rfl
@[simp] theorem setHall_nextSample (h : Nat) (x : Hall) : (setHall h x s).nextSample = s.nextSample := rfl
@[simp] theorem setHall_nextAccrual (h : Nat) (x : Hall) : (setHall h x s).nextAccrual = s.nextAccrual := rfl
@[simp] theorem setHall_outbox (h : Nat) (x : Hall) : (setHall h x s).outbox = s.outbox := rfl
@[simp] theorem setHall_pins (h : Nat) (x : Hall) : (setHall h x s).pins = s.pins := rfl
@[simp] theorem setHall_link (h : Nat) (x : Hall) : (setHall h x s).link = s.link := rfl
@[simp] theorem setHall_clock (h : Nat) (x : Hall) : (setHall h x s).clock = s.clock := rfl
@[simp] theorem setHall_table (h : Nat) (x : Hall) : (setHall h x s).table = s.table := rfl
@[simp] theorem setHall_sense (h : Nat) (x : Hall) : (setHall h x s).sense = s.sense := rfl
@[simp] theorem setHall_plates (h : Nat) (x : Hall) : (setHall h x s).plates = s.plates := rfl
@[simp] theorem setHall_resolver (h : Nat) (x : Hall) : (setHall h x s).resolver = s.resolver := rfl
@[simp] theorem setHall_dispatcher (h : Nat) (x : Hall) : (setHall h x s).dispatcher = s.dispatcher := rfl
@[simp] theorem setHall_trunks (h : Nat) (x : Hall) : (setHall h x s).trunks = s.trunks := rfl
@[simp] theorem setHall_health (h : Nat) (x : Hall) : (setHall h x s).health = s.health := rfl

/-! ### setWall -/

@[simp] theorem setWall_pending (w : Nat) (x : Wall) : (setWall w x s).pending = s.pending := rfl
@[simp] theorem setWall_now (w : Nat) (x : Wall) : (setWall w x s).now = s.now := rfl
@[simp] theorem setWall_nextSample (w : Nat) (x : Wall) : (setWall w x s).nextSample = s.nextSample := rfl
@[simp] theorem setWall_nextAccrual (w : Nat) (x : Wall) : (setWall w x s).nextAccrual = s.nextAccrual := rfl
@[simp] theorem setWall_outbox (w : Nat) (x : Wall) : (setWall w x s).outbox = s.outbox := rfl
@[simp] theorem setWall_pins (w : Nat) (x : Wall) : (setWall w x s).pins = s.pins := rfl
@[simp] theorem setWall_link (w : Nat) (x : Wall) : (setWall w x s).link = s.link := rfl
@[simp] theorem setWall_clock (w : Nat) (x : Wall) : (setWall w x s).clock = s.clock := rfl
@[simp] theorem setWall_table (w : Nat) (x : Wall) : (setWall w x s).table = s.table := rfl
@[simp] theorem setWall_sense (w : Nat) (x : Wall) : (setWall w x s).sense = s.sense := rfl
@[simp] theorem setWall_plates (w : Nat) (x : Wall) : (setWall w x s).plates = s.plates := rfl
@[simp] theorem setWall_resolver (w : Nat) (x : Wall) : (setWall w x s).resolver = s.resolver := rfl
@[simp] theorem setWall_dispatcher (w : Nat) (x : Wall) : (setWall w x s).dispatcher = s.dispatcher := rfl
@[simp] theorem setWall_trunks (w : Nat) (x : Wall) : (setWall w x s).trunks = s.trunks := rfl
@[simp] theorem setWall_health (w : Nat) (x : Wall) : (setWall w x s).health = s.health := rfl

/-! ### setTiming -/

@[simp] theorem setTiming_pending (r : Nat) (x : Timing) : (setTiming r x s).pending = s.pending := rfl
@[simp] theorem setTiming_now (r : Nat) (x : Timing) : (setTiming r x s).now = s.now := rfl
@[simp] theorem setTiming_nextSample (r : Nat) (x : Timing) : (setTiming r x s).nextSample = s.nextSample := rfl
@[simp] theorem setTiming_nextAccrual (r : Nat) (x : Timing) : (setTiming r x s).nextAccrual = s.nextAccrual := rfl
@[simp] theorem setTiming_outbox (r : Nat) (x : Timing) : (setTiming r x s).outbox = s.outbox := rfl
@[simp] theorem setTiming_pins (r : Nat) (x : Timing) : (setTiming r x s).pins = s.pins := rfl
@[simp] theorem setTiming_link (r : Nat) (x : Timing) : (setTiming r x s).link = s.link := rfl
@[simp] theorem setTiming_clock (r : Nat) (x : Timing) : (setTiming r x s).clock = s.clock := rfl
@[simp] theorem setTiming_layout (r : Nat) (x : Timing) : (setTiming r x s).layout = s.layout := rfl
@[simp] theorem setTiming_sense (r : Nat) (x : Timing) : (setTiming r x s).sense = s.sense := rfl
@[simp] theorem setTiming_plates (r : Nat) (x : Timing) : (setTiming r x s).plates = s.plates := rfl
@[simp] theorem setTiming_resolver (r : Nat) (x : Timing) : (setTiming r x s).resolver = s.resolver := rfl
@[simp] theorem setTiming_dispatcher (r : Nat) (x : Timing) : (setTiming r x s).dispatcher = s.dispatcher := rfl
@[simp] theorem setTiming_trunks (r : Nat) (x : Timing) : (setTiming r x s).trunks = s.trunks := rfl
@[simp] theorem setTiming_health (r : Nat) (x : Timing) : (setTiming r x s).health = s.health := rfl

/-! ### dropTiming -/

@[simp] theorem dropTiming_pending (r : Nat) : (dropTiming r s).pending = s.pending := rfl
@[simp] theorem dropTiming_now (r : Nat) : (dropTiming r s).now = s.now := rfl
@[simp] theorem dropTiming_nextSample (r : Nat) : (dropTiming r s).nextSample = s.nextSample := rfl
@[simp] theorem dropTiming_nextAccrual (r : Nat) : (dropTiming r s).nextAccrual = s.nextAccrual := rfl
@[simp] theorem dropTiming_outbox (r : Nat) : (dropTiming r s).outbox = s.outbox := rfl
@[simp] theorem dropTiming_pins (r : Nat) : (dropTiming r s).pins = s.pins := rfl
@[simp] theorem dropTiming_link (r : Nat) : (dropTiming r s).link = s.link := rfl
@[simp] theorem dropTiming_clock (r : Nat) : (dropTiming r s).clock = s.clock := rfl
@[simp] theorem dropTiming_layout (r : Nat) : (dropTiming r s).layout = s.layout := rfl
@[simp] theorem dropTiming_sense (r : Nat) : (dropTiming r s).sense = s.sense := rfl
@[simp] theorem dropTiming_plates (r : Nat) : (dropTiming r s).plates = s.plates := rfl
@[simp] theorem dropTiming_resolver (r : Nat) : (dropTiming r s).resolver = s.resolver := rfl
@[simp] theorem dropTiming_dispatcher (r : Nat) : (dropTiming r s).dispatcher = s.dispatcher := rfl
@[simp] theorem dropTiming_trunks (r : Nat) : (dropTiming r s).trunks = s.trunks := rfl
@[simp] theorem dropTiming_health (r : Nat) : (dropTiming r s).health = s.health := rfl

/-! ### refreshLamps -/

@[simp] theorem refreshLamps_pending (h : Nat) : (refreshLamps h s).pending = s.pending := rfl
@[simp] theorem refreshLamps_now (h : Nat) : (refreshLamps h s).now = s.now := rfl
@[simp] theorem refreshLamps_nextSample (h : Nat) : (refreshLamps h s).nextSample = s.nextSample := rfl
@[simp] theorem refreshLamps_nextAccrual (h : Nat) : (refreshLamps h s).nextAccrual = s.nextAccrual := rfl
@[simp] theorem refreshLamps_outbox (h : Nat) : (refreshLamps h s).outbox = s.outbox := rfl
@[simp] theorem refreshLamps_pins (h : Nat) : (refreshLamps h s).pins = s.pins := rfl
@[simp] theorem refreshLamps_link (h : Nat) : (refreshLamps h s).link = s.link := rfl
@[simp] theorem refreshLamps_clock (h : Nat) : (refreshLamps h s).clock = s.clock := rfl
@[simp] theorem refreshLamps_table (h : Nat) : (refreshLamps h s).table = s.table := rfl
@[simp] theorem refreshLamps_layout (h : Nat) : (refreshLamps h s).layout = s.layout := rfl
@[simp] theorem refreshLamps_plates (h : Nat) : (refreshLamps h s).plates = s.plates := rfl
@[simp] theorem refreshLamps_resolver (h : Nat) : (refreshLamps h s).resolver = s.resolver := rfl
@[simp] theorem refreshLamps_dispatcher (h : Nat) : (refreshLamps h s).dispatcher = s.dispatcher := rfl
@[simp] theorem refreshLamps_trunks (h : Nat) : (refreshLamps h s).trunks = s.trunks := rfl
@[simp] theorem refreshLamps_health (h : Nat) : (refreshLamps h s).health = s.health := rfl

/-! ### setLineWindow -/

@[simp] theorem setLineWindow_pending (t : Nat) (w : LineWindow) : (setLineWindow t w s).pending = s.pending := rfl
@[simp] theorem setLineWindow_now (t : Nat) (w : LineWindow) : (setLineWindow t w s).now = s.now := rfl
@[simp] theorem setLineWindow_nextSample (t : Nat) (w : LineWindow) : (setLineWindow t w s).nextSample = s.nextSample := rfl
@[simp] theorem setLineWindow_nextAccrual (t : Nat) (w : LineWindow) : (setLineWindow t w s).nextAccrual = s.nextAccrual := rfl
@[simp] theorem setLineWindow_outbox (t : Nat) (w : LineWindow) : (setLineWindow t w s).outbox = s.outbox := rfl
@[simp] theorem setLineWindow_pins (t : Nat) (w : LineWindow) : (setLineWindow t w s).pins = s.pins := rfl
@[simp] theorem setLineWindow_link (t : Nat) (w : LineWindow) : (setLineWindow t w s).link = s.link := rfl
@[simp] theorem setLineWindow_clock (t : Nat) (w : LineWindow) : (setLineWindow t w s).clock = s.clock := rfl
@[simp] theorem setLineWindow_table (t : Nat) (w : LineWindow) : (setLineWindow t w s).table = s.table := rfl
@[simp] theorem setLineWindow_layout (t : Nat) (w : LineWindow) : (setLineWindow t w s).layout = s.layout := rfl
@[simp] theorem setLineWindow_sense (t : Nat) (w : LineWindow) : (setLineWindow t w s).sense = s.sense := rfl
@[simp] theorem setLineWindow_plates (t : Nat) (w : LineWindow) : (setLineWindow t w s).plates = s.plates := rfl
@[simp] theorem setLineWindow_resolver (t : Nat) (w : LineWindow) : (setLineWindow t w s).resolver = s.resolver := rfl
@[simp] theorem setLineWindow_dispatcher (t : Nat) (w : LineWindow) : (setLineWindow t w s).dispatcher = s.dispatcher := rfl
@[simp] theorem setLineWindow_trunks (t : Nat) (w : LineWindow) : (setLineWindow t w s).trunks = s.trunks := rfl

/-! ### setWallWindows -/

@[simp] theorem setWallWindows_pending (w : WallWindows) : (setWallWindows w s).pending = s.pending := rfl
@[simp] theorem setWallWindows_now (w : WallWindows) : (setWallWindows w s).now = s.now := rfl
@[simp] theorem setWallWindows_nextSample (w : WallWindows) : (setWallWindows w s).nextSample = s.nextSample := rfl
@[simp] theorem setWallWindows_nextAccrual (w : WallWindows) : (setWallWindows w s).nextAccrual = s.nextAccrual := rfl
@[simp] theorem setWallWindows_outbox (w : WallWindows) : (setWallWindows w s).outbox = s.outbox := rfl
@[simp] theorem setWallWindows_pins (w : WallWindows) : (setWallWindows w s).pins = s.pins := rfl
@[simp] theorem setWallWindows_link (w : WallWindows) : (setWallWindows w s).link = s.link := rfl
@[simp] theorem setWallWindows_clock (w : WallWindows) : (setWallWindows w s).clock = s.clock := rfl
@[simp] theorem setWallWindows_table (w : WallWindows) : (setWallWindows w s).table = s.table := rfl
@[simp] theorem setWallWindows_layout (w : WallWindows) : (setWallWindows w s).layout = s.layout := rfl
@[simp] theorem setWallWindows_sense (w : WallWindows) : (setWallWindows w s).sense = s.sense := rfl
@[simp] theorem setWallWindows_plates (w : WallWindows) : (setWallWindows w s).plates = s.plates := rfl
@[simp] theorem setWallWindows_resolver (w : WallWindows) : (setWallWindows w s).resolver = s.resolver := rfl
@[simp] theorem setWallWindows_dispatcher (w : WallWindows) : (setWallWindows w s).dispatcher = s.dispatcher := rfl
@[simp] theorem setWallWindows_trunks (w : WallWindows) : (setWallWindows w s).trunks = s.trunks := rfl

/-! ### recomputeSummary -/

@[simp] theorem recomputeSummary_pending : (recomputeSummary s).pending = s.pending := rfl
@[simp] theorem recomputeSummary_now : (recomputeSummary s).now = s.now := rfl
@[simp] theorem recomputeSummary_nextSample : (recomputeSummary s).nextSample = s.nextSample := rfl
@[simp] theorem recomputeSummary_nextAccrual : (recomputeSummary s).nextAccrual = s.nextAccrual := rfl
@[simp] theorem recomputeSummary_outbox : (recomputeSummary s).outbox = s.outbox := rfl
@[simp] theorem recomputeSummary_pins : (recomputeSummary s).pins = s.pins := rfl
@[simp] theorem recomputeSummary_link : (recomputeSummary s).link = s.link := rfl
@[simp] theorem recomputeSummary_clock : (recomputeSummary s).clock = s.clock := rfl
@[simp] theorem recomputeSummary_table : (recomputeSummary s).table = s.table := rfl
@[simp] theorem recomputeSummary_layout : (recomputeSummary s).layout = s.layout := rfl
@[simp] theorem recomputeSummary_sense : (recomputeSummary s).sense = s.sense := rfl
@[simp] theorem recomputeSummary_plates : (recomputeSummary s).plates = s.plates := rfl
@[simp] theorem recomputeSummary_resolver : (recomputeSummary s).resolver = s.resolver := rfl
@[simp] theorem recomputeSummary_dispatcher : (recomputeSummary s).dispatcher = s.dispatcher := rfl
@[simp] theorem recomputeSummary_trunks : (recomputeSummary s).trunks = s.trunks := rfl

/-! ### reachInstant -/

@[simp] theorem reachInstant_pending (n : Nat) : (reachInstant n s).pending = s.pending := rfl
@[simp] theorem reachInstant_nextSample (n : Nat) : (reachInstant n s).nextSample = s.nextSample := rfl
@[simp] theorem reachInstant_nextAccrual (n : Nat) : (reachInstant n s).nextAccrual = s.nextAccrual := rfl
@[simp] theorem reachInstant_outbox (n : Nat) : (reachInstant n s).outbox = s.outbox := rfl
@[simp] theorem reachInstant_pins (n : Nat) : (reachInstant n s).pins = s.pins := rfl
@[simp] theorem reachInstant_link (n : Nat) : (reachInstant n s).link = s.link := rfl
@[simp] theorem reachInstant_clock (n : Nat) : (reachInstant n s).clock = s.clock := rfl
@[simp] theorem reachInstant_table (n : Nat) : (reachInstant n s).table = s.table := rfl
@[simp] theorem reachInstant_layout (n : Nat) : (reachInstant n s).layout = s.layout := rfl
@[simp] theorem reachInstant_sense (n : Nat) : (reachInstant n s).sense = s.sense := rfl
@[simp] theorem reachInstant_plates (n : Nat) : (reachInstant n s).plates = s.plates := rfl
@[simp] theorem reachInstant_resolver (n : Nat) : (reachInstant n s).resolver = s.resolver := rfl
@[simp] theorem reachInstant_dispatcher (n : Nat) : (reachInstant n s).dispatcher = s.dispatcher := rfl
@[simp] theorem reachInstant_trunks (n : Nat) : (reachInstant n s).trunks = s.trunks := rfl
@[simp] theorem reachInstant_health (n : Nat) : (reachInstant n s).health = s.health := rfl

/-! ### produce -/

@[simp] theorem produce_pending (n : Notice) : (produce n s).pending = s.pending := rfl
@[simp] theorem produce_now (n : Notice) : (produce n s).now = s.now := rfl
@[simp] theorem produce_nextSample (n : Notice) : (produce n s).nextSample = s.nextSample := rfl
@[simp] theorem produce_nextAccrual (n : Notice) : (produce n s).nextAccrual = s.nextAccrual := rfl
@[simp] theorem produce_pins (n : Notice) : (produce n s).pins = s.pins := rfl
@[simp] theorem produce_link (n : Notice) : (produce n s).link = s.link := rfl
@[simp] theorem produce_clock (n : Notice) : (produce n s).clock = s.clock := rfl
@[simp] theorem produce_table (n : Notice) : (produce n s).table = s.table := rfl
@[simp] theorem produce_layout (n : Notice) : (produce n s).layout = s.layout := rfl
@[simp] theorem produce_sense (n : Notice) : (produce n s).sense = s.sense := rfl
@[simp] theorem produce_plates (n : Notice) : (produce n s).plates = s.plates := rfl
@[simp] theorem produce_resolver (n : Notice) : (produce n s).resolver = s.resolver := rfl
@[simp] theorem produce_dispatcher (n : Notice) : (produce n s).dispatcher = s.dispatcher := rfl
@[simp] theorem produce_trunks (n : Notice) : (produce n s).trunks = s.trunks := rfl
@[simp] theorem produce_health (n : Notice) : (produce n s).health = s.health := rfl

/-! ### modifyLink -/

@[simp] theorem modifyLink_pending (f : Link → Link) : (modifyLink f s).pending = s.pending := rfl
@[simp] theorem modifyLink_now (f : Link → Link) : (modifyLink f s).now = s.now := rfl
@[simp] theorem modifyLink_nextSample (f : Link → Link) : (modifyLink f s).nextSample = s.nextSample := rfl
@[simp] theorem modifyLink_nextAccrual (f : Link → Link) : (modifyLink f s).nextAccrual = s.nextAccrual := rfl
@[simp] theorem modifyLink_outbox (f : Link → Link) : (modifyLink f s).outbox = s.outbox := rfl
@[simp] theorem modifyLink_pins (f : Link → Link) : (modifyLink f s).pins = s.pins := rfl
@[simp] theorem modifyLink_clock (f : Link → Link) : (modifyLink f s).clock = s.clock := rfl
@[simp] theorem modifyLink_table (f : Link → Link) : (modifyLink f s).table = s.table := rfl
@[simp] theorem modifyLink_layout (f : Link → Link) : (modifyLink f s).layout = s.layout := rfl
@[simp] theorem modifyLink_sense (f : Link → Link) : (modifyLink f s).sense = s.sense := rfl
@[simp] theorem modifyLink_plates (f : Link → Link) : (modifyLink f s).plates = s.plates := rfl
@[simp] theorem modifyLink_resolver (f : Link → Link) : (modifyLink f s).resolver = s.resolver := rfl
@[simp] theorem modifyLink_dispatcher (f : Link → Link) : (modifyLink f s).dispatcher = s.dispatcher := rfl
@[simp] theorem modifyLink_trunks (f : Link → Link) : (modifyLink f s).trunks = s.trunks := rfl
@[simp] theorem modifyLink_health (f : Link → Link) : (modifyLink f s).health = s.health := rfl

/-! ### The field an update writes -/

@[simp] theorem produce_outbox (n : Notice) : (produce n s).outbox = s.outbox ++ [n] := rfl
@[simp] theorem reachInstant_now (n : Nat) : (reachInstant n s).now = max s.now n := rfl
@[simp] theorem modifyLink_link (f : Link → Link) : (modifyLink f s).link = f s.link := rfl
@[simp] theorem setSign_signs (k : Nat) (x : Sign) :
    (setSign k x s).resolver = { s.resolver with signs := assign s.resolver.signs k x } := rfl
@[simp] theorem setPanel_dispatcher (k : Nat) (x : Panel) :
    (setPanel k x s).dispatcher = { s.dispatcher with panels := assign s.dispatcher.panels k x } := rfl
@[simp] theorem setTrunk_trunks (t : Nat) (x : Trunk) : (setTrunk t x s).trunks = assignD s.trunks t x Trunk.reset := rfl
@[simp] theorem setLine_sense (l : Nat) (x : Line) :
    (setLine l x s).sense = { s.sense with lines := assignD s.sense.lines l x Line.reset } := rfl
@[simp] theorem setPlate_plates (i : Nat) (x : Plate) :
    (setPlate i x s).plates = { s.plates with plates := assign s.plates.plates i x } := rfl
@[simp] theorem setHall_layout (h : Nat) (x : Hall) :
    (setHall h x s).layout = { s.layout with halls := assign s.layout.halls h x } := rfl
@[simp] theorem setWall_layout (w : Nat) (x : Wall) :
    (setWall w x s).layout = { s.layout with walls := assign s.layout.walls w x } := rfl
@[simp] theorem setTiming_table (r : Nat) (x : Timing) :
    (setTiming r x s).table = { s.table with timing := assign s.table.timing r x } := rfl

end Sys2Proof.Machine
end

