-- ==== Sys2Proof/Laws/Tables.lean ====
section
/-! SUPPORT. The laws of tables and sets of numbers: what a lookup finds after each update, and that every update keeps the
numbers strictly rising. -/

namespace Sys2Proof.Machine

variable {α : Type}

/-! ### What a lookup finds -/

theorem lookup_assign (t : Table α) (k : Nat) (v : α) (j : Nat) :
    lookup (assign t k v) j = if k = j then some v else lookup t j := by
  induction t with
  | nil => simp [assign, lookup]
  | cons e t ih =>
    obtain ⟨n, w⟩ := e
    simp only [assign]
    split
    · simp [lookup]
    · split
      · rename_i hn
        by_cases h : k = j <;> simp [lookup, hn, h]
      · by_cases h : n = j
        · have : k ≠ j := by omega
          simp [lookup, h, this]
        · simp [lookup, h, ih]

@[simp] theorem lookup_assign_same (t : Table α) (k : Nat) (v : α) : lookup (assign t k v) k = some v := by
  simp [lookup_assign]

theorem lookup_assign_other (t : Table α) {k j : Nat} (v : α) (h : k ≠ j) : lookup (assign t k v) j = lookup t j := by
  simp [lookup_assign, h]

theorem lookup_filter_key (t : Table α) (p : Nat → Bool) (j : Nat) :
    lookup (t.filter fun e => p e.1) j = if p j then lookup t j else none := by
  induction t with
  | nil => simp [lookup]
  | cons e t ih =>
    obtain ⟨n, w⟩ := e
    by_cases hp : p n <;> by_cases h : n = j <;> simp_all [lookup]

theorem lookup_erase (t : Table α) (k j : Nat) : lookup (erase t k) j = if j = k then none else lookup t j := by
  have h := lookup_filter_key t (fun n => n != k) j
  by_cases hj : j = k <;> simp_all [erase]

@[simp] theorem lookup_erase_same (t : Table α) (k : Nat) : lookup (erase t k) k = none := by simp [lookup_erase]

theorem lookup_erase_other (t : Table α) {k j : Nat} (h : j ≠ k) : lookup (erase t k) j = lookup t j := by
  simp [lookup_erase, h]

theorem lookupD_assignD [DecidableEq α] (t : Table α) (k : Nat) (v d : α) (j : Nat) :
    lookupD (assignD t k v d) j d = if k = j then v else lookupD t j d := by
  unfold assignD lookupD
  by_cases hv : v = d
  · by_cases h : j = k
    · subst h; simp [hv]
    · have : ¬ k = j := fun e => h e.symm
      simp [hv, lookup_erase, h, this]
  · by_cases h : k = j <;> simp [hv, lookup_assign, h]

theorem lookup_mapTable (f : Nat → α → α) (t : Table α) (j : Nat) :
    lookup (mapTable f t) j = (lookup t j).map (f j) := by
  induction t with
  | nil => rfl
  | cons e t ih =>
    obtain ⟨n, w⟩ := e
    by_cases h : n = j
    · subst h; simp [mapTable, lookup]
    · simpa [mapTable, lookup, h] using ih

theorem mem_of_lookup {t : Table α} {k : Nat} {v : α} (h : lookup t k = some v) : (k, v) ∈ t := by
  induction t with
  | nil => simp [lookup] at h
  | cons e t ih =>
    obtain ⟨n, w⟩ := e
    by_cases hn : n = k
    · subst hn; simp [lookup] at h; simp [h]
    · simp [lookup, hn] at h; exact List.mem_cons_of_mem _ (ih h)

/-! ### Strictly rising numbers -/

theorem rising_iff_pairwise (l : List Nat) : rising l = true ↔ l.Pairwise (· < ·) := by
  induction l with
  | nil => simp [rising]
  | cons a l ih =>
    cases l with
    | nil => simp [rising]
    | cons b l =>
      simp only [rising, Bool.and_eq_true, decide_eq_true_eq, ih, List.pairwise_cons, List.mem_cons, forall_eq_or_imp]
      constructor
      · rintro ⟨h, hb, hl⟩
        exact ⟨⟨h, fun c hc => Nat.lt_trans h (hb c hc)⟩, hb, hl⟩
      · rintro ⟨⟨h, _⟩, hb, hl⟩
        exact ⟨h, hb, hl⟩

theorem risingKeys_iff (t : Table α) : risingKeys t = true ↔ t.Pairwise fun a b => a.1 < b.1 := by
  rw [risingKeys, rising_iff_pairwise, numbers, List.pairwise_map]

theorem mem_assign {t : Table α} {k : Nat} {v : α} {e : Nat × α} (h : e ∈ assign t k v) : e = (k, v) ∨ e ∈ t := by
  induction t with
  | nil => simpa [assign] using h
  | cons c t ih =>
    obtain ⟨n, w⟩ := c
    simp only [assign] at h
    split at h
    · simpa using h
    · split at h
      · rcases List.mem_cons.mp h with h | h
        · exact Or.inl h
        · exact Or.inr (List.mem_cons_of_mem _ h)
      · rcases List.mem_cons.mp h with h | h
        · exact Or.inr (by simp [h])
        · exact (ih h).imp id (List.mem_cons_of_mem _)

theorem risingKeys_assign {t : Table α} (h : risingKeys t = true) (k : Nat) (v : α) : risingKeys (assign t k v) = true := by
  rw [risingKeys_iff] at *
  induction t with
  | nil => simp [assign]
  | cons c t ih =>
    obtain ⟨n, w⟩ := c
    rw [List.pairwise_cons] at h
    simp only [assign]
    split
    · rename_i hk
      refine List.pairwise_cons.mpr ⟨?_, List.pairwise_cons.mpr h⟩
      intro e he
      rcases List.mem_cons.mp he with rfl | he
      · exact hk
      · exact Nat.lt_trans hk (h.1 e he)
    · split
      · rename_i hn
        subst hn
        exact List.pairwise_cons.mpr h
      · rename_i h1 h2
        refine List.pairwise_cons.mpr ⟨?_, ih h.2⟩
        intro e he
        rcases mem_assign he with rfl | he
        · show n < k
          omega
        · exact h.1 e he

theorem risingKeys_filter {t : Table α} (h : risingKeys t = true) (p : Nat × α → Bool) :
    risingKeys (t.filter p) = true := by
  rw [risingKeys_iff] at *
  exact h.filter p

theorem risingKeys_erase {t : Table α} (h : risingKeys t = true) (k : Nat) : risingKeys (erase t k) = true :=
  risingKeys_filter h _

theorem risingKeys_assignD [DecidableEq α] {t : Table α} (h : risingKeys t = true) (k : Nat) (v d : α) :
    risingKeys (assignD t k v d) = true := by
  unfold assignD
  split
  · exact risingKeys_erase h k
  · exact risingKeys_assign h k v

theorem numbers_mapTable (f : Nat → α → α) (t : Table α) : numbers (mapTable f t) = numbers t := by
  simp [numbers, mapTable]

theorem risingKeys_mapTable {t : Table α} (h : risingKeys t = true) (f : Nat → α → α) :
    risingKeys (mapTable f t) = true := by
  rw [risingKeys, numbers_mapTable]
  exact h

theorem lookup_of_mem {t : Table α} (h : risingKeys t = true) {k : Nat} {v : α} (hm : (k, v) ∈ t) :
    lookup t k = some v := by
  rw [risingKeys_iff] at h
  induction t with
  | nil => simp at hm
  | cons c t ih =>
    obtain ⟨n, w⟩ := c
    rw [List.pairwise_cons] at h
    rcases List.mem_cons.mp hm with hm | hm
    · cases hm; simp [lookup]
    · have : n < k := h.1 _ hm
      have hne : n ≠ k := by omega
      simp [lookup, hne, ih h.2 hm]

/-! ### Sets of numbers -/

theorem mem_insertNumber (l : List Nat) (k n : Nat) : n ∈ insertNumber l k ↔ n = k ∨ n ∈ l := by
  induction l with
  | nil => simp [insertNumber]
  | cons a l ih =>
    simp only [insertNumber]
    split
    · simp
    · split
      · rename_i h; subst h; simp
      · simp only [List.mem_cons, ih]; grind

theorem mem_putNumber (l : List Nat) (k : Nat) (b : Bool) (n : Nat) :
    n ∈ putNumber l k b ↔ if n = k then b = true else n ∈ l := by
  cases b
  · by_cases h : n = k <;> simp [putNumber, h]
  · by_cases h : n = k <;> simp [putNumber, mem_insertNumber, h]

theorem contains_putNumber (l : List Nat) (k : Nat) (b : Bool) (n : Nat) :
    (putNumber l k b).contains n = if n = k then b else l.contains n := by
  rw [Bool.eq_iff_iff, List.contains_iff_mem, mem_putNumber]
  by_cases h : n = k <;> simp [h]

/-! ### Records of the state -/

theorem trunkOf_setTrunk (s : State) (t n : Nat) (x : Trunk) :
    trunkOf (setTrunk t x s) n = if t = n then x else trunkOf s n := by
  simp [trunkOf, lookupD_assignD]

theorem trunkOf_modifyTrunk (s : State) (t n : Nat) (f : Trunk → Trunk) :
    trunkOf (modifyTrunk t f s) n = if t = n then f (trunkOf s t) else trunkOf s n := trunkOf_setTrunk s t n _

theorem lineOf_setLine (s : State) (l n : Nat) (x : Line) :
    lineOf (setLine l x s) n = if l = n then x else lineOf s n := by
  simp [lineOf, lookupD_assignD]

theorem signAt_setSign (s : State) (k n : Nat) (x : Sign) :
    signAt (setSign k x s) n = if k = n then some x else signAt s n := by
  simp [signAt, lookup_assign]

theorem panelAt_setPanel (s : State) (k n : Nat) (x : Panel) :
    panelAt (setPanel k x s) n = if k = n then some x else panelAt s n := by
  simp [panelAt, lookup_assign]

theorem plateAt_setPlate (s : State) (k n : Nat) (x : Plate) :
    plateAt (setPlate k x s) n = if k = n then some x else plateAt s n := by
  simp [plateAt, lookup_assign]

theorem plateAt_mapPlates (s : State) (f : Nat → Plate → Plate) (n : Nat) :
    plateAt (mapPlates f s) n = (plateAt s n).map (f n) := by
  simp [plateAt, mapPlates, lookup_mapTable]

theorem panelAt_modifyPanel (s : State) (k n : Nat) (f : Panel → Panel) :
    panelAt (modifyPanel k f s) n = if k = n then (panelAt s n).map f else panelAt s n := by
  unfold modifyPanel
  by_cases h : k = n
  · subst h
    cases hp : panelAt s k <;> simp [hp, panelAt_setPanel]
  · cases hp : panelAt s k <;> simp [h, panelAt_setPanel]

end Sys2Proof.Machine
end

