-- ==== Sys2Proof/Laws/Flow.lean ====
section
/-! SUPPORT. Frames: what the operations of the Resolver, the Dispatcher, the Trunk Controllers and the health flags leave
alone. `CoreFlow` is the frame of nearly all of them; `Flow` adds the mismatch values with their lamps. -/

namespace Sys2Proof.Machine

/-- Everything is as it was but the outbox, the plate records, the sign records, the panels, the trunks, and the live, held
and summary flags. -/
structure CoreFlow (s t : State) : Prop where
  pending : t.pending = s.pending
  now : t.now = s.now
  nextSample : t.nextSample = s.nextSample
  nextAccrual : t.nextAccrual = s.nextAccrual
  pins : t.pins = s.pins
  link : t.link = s.link
  clock : t.clock = s.clock
  table : t.table = s.table
  layout : t.layout = s.layout
  sense : t.sense = s.sense
  plates : t.plates = { s.plates with plates := t.plates.plates }
  resolver : t.resolver = { s.resolver with signs := t.resolver.signs }
  health : t.health = { s.health with live := t.health.live, held := t.health.held, summary := t.health.summary }

variable {s t u : State}

theorem CoreFlow.refl (s : State) : CoreFlow s s := by constructor <;> rfl

theorem CoreFlow.trans (h : CoreFlow s t) (g : CoreFlow t u) : CoreFlow s u where
  pending := g.pending.trans h.pending
  now := g.now.trans h.now
  nextSample := g.nextSample.trans h.nextSample
  nextAccrual := g.nextAccrual.trans h.nextAccrual
  pins := g.pins.trans h.pins
  link := g.link.trans h.link
  clock := g.clock.trans h.clock
  table := g.table.trans h.table
  layout := g.layout.trans h.layout
  sense := g.sense.trans h.sense
  plates := by rw [g.plates, h.plates]
  resolver := by rw [g.resolver, h.resolver]
  health := by rw [g.health, h.health]

/-- The frame as one equation. -/
theorem CoreFlow.eq (h : CoreFlow s t) :
    t = { s with
      outbox := t.outbox
      plates := { s.plates with plates := t.plates.plates }
      resolver := { s.resolver with signs := t.resolver.signs }
      dispatcher := t.dispatcher
      trunks := t.trunks
      health := { s.health with live := t.health.live, held := t.health.held, summary := t.health.summary } } := by
  obtain ⟨h1, h2, h3, h4, h5, h6, h7, h8, h9, h10, h11, h12, h13⟩ := h
  cases t
  simp only at *
  subst h1 h2 h3 h4 h5 h6 h7 h8 h9 h10
  rw [← h11, ← h12, ← h13]

/-- A fold of operations inside the frame stays inside it. -/
theorem CoreFlow.foldl {α : Type} {f : State → α → State} (hf : ∀ a u, CoreFlow s u → CoreFlow s (f u a)) (l : List α) :
    ∀ t, CoreFlow s t → CoreFlow s (l.foldl f t) := by
  induction l with
  | nil => intro t h; exact h
  | cons a l ih => intro t h; exact ih _ (hf a t h)

/-! ### The state's updates -/

theorem CoreFlow.produce (h : CoreFlow s t) (n : Notice) : CoreFlow s (produce n t) :=
  h.trans (by constructor <;> rfl)

theorem CoreFlow.setTrunk (h : CoreFlow s t) (n : Nat) (x : Trunk) : CoreFlow s (setTrunk n x t) :=
  h.trans (by constructor <;> rfl)

theorem CoreFlow.modifyTrunk (h : CoreFlow s t) (n : Nat) (f : Trunk → Trunk) : CoreFlow s (modifyTrunk n f t) :=
  h.setTrunk n _

theorem CoreFlow.wakeTrunk (h : CoreFlow s t) (n : Nat) : CoreFlow s (wakeTrunk n t) := h.modifyTrunk n _

theorem CoreFlow.setExchange (h : CoreFlow s t) (n : Nat) (e : Option Exchange) : CoreFlow s (setExchange n e t) :=
  h.modifyTrunk n _

theorem CoreFlow.dropStep (h : CoreFlow s t) (n : Nat) : CoreFlow s (dropStep n t) := h.modifyTrunk n _

theorem CoreFlow.setSign (h : CoreFlow s t) (k : Nat) (x : Sign) : CoreFlow s (setSign k x t) :=
  h.trans (by constructor <;> rfl)

theorem CoreFlow.setPanel (h : CoreFlow s t) (k : Nat) (x : Panel) : CoreFlow s (setPanel k x t) :=
  h.trans (by constructor <;> rfl)

theorem CoreFlow.modifyPanel (h : CoreFlow s t) (k : Nat) (f : Panel → Panel) : CoreFlow s (modifyPanel k f t) := by
  unfold Machine.modifyPanel
  split
  · exact h
  · exact h.setPanel k _

theorem CoreFlow.setPlate (h : CoreFlow s t) (i : Nat) (x : Plate) : CoreFlow s (setPlate i x t) :=
  h.trans (by constructor <;> rfl)

theorem CoreFlow.withDispatcher (h : CoreFlow s t) (d : Dispatcher) : CoreFlow s { t with dispatcher := d } :=
  h.trans (by constructor <;> rfl)

/-! ### Health flags -/

theorem CoreFlow.recomputeSummary (h : CoreFlow s t) : CoreFlow s (recomputeSummary t) :=
  h.trans (by constructor <;> rfl)

theorem CoreFlow.setHeld (h : CoreFlow s t) (o : HealthObject) (c : Condition) : CoreFlow s (setHeld o c t) := by
  unfold Machine.setHeld
  have h1 : CoreFlow s (Machine.recomputeSummary
      { t with health := { t.health with held := putKey t.health.held ⟨o, c⟩ true } }) :=
    h.trans (by constructor <;> rfl)
  dsimp only
  split
  · exact h1.produce _
  · exact h1

theorem CoreFlow.setLive (h : CoreFlow s t) (o : HealthObject) (c : Condition) (v : Bool) :
    CoreFlow s (setLive o c v t) := by
  unfold Machine.setLive
  split
  · exact h
  · have h1 : CoreFlow s { t with health := { t.health with live := putKey t.health.live ⟨o, c⟩ v } } :=
      h.trans (by constructor <;> rfl)
    dsimp only
    split
    · exact h1.setHeld o c
    · exact h1

theorem CoreFlow.clearConditions (h : CoreFlow s t) (o : HealthObject) (cs : List Condition) :
    CoreFlow s (clearConditions o cs t) :=
  CoreFlow.foldl (fun c _ hu => hu.setLive o c false) cs t h

theorem CoreFlow.applyJudgement (h : CoreFlow s t) (o : HealthObject) (c : Condition) (v : Option Bool) :
    CoreFlow s (applyJudgement o c v t) := by
  unfold Machine.applyJudgement
  split
  · exact h.setLive o c _
  · exact h

/-! ### Dispatcher -/

theorem CoreFlow.joinQueue (h : CoreFlow s t) (k : Nat) (p : Panel) (b : Bool) : CoreFlow s (joinQueue k p b t) := by
  unfold Machine.joinQueue
  exact ((h.setPanel k _).withDispatcher _).wakeTrunk _

theorem CoreFlow.judgeMembership (h : CoreFlow s t) (k : Nat) : CoreFlow s (judgeMembership k t) := by
  unfold Machine.judgeMembership
  split
  · split
    · split
      · exact h.joinQueue k _ _
      · exact h
    · split
      · exact h.setPanel k _
      · exact h
  · exact h

theorem CoreFlow.desiredChange (h : CoreFlow s t) (k : Nat) (b : Bool) : CoreFlow s (desiredChange k b t) := by
  unfold Machine.desiredChange
  split
  · split
    · exact h
    · split
      · split
        · exact h.setPanel k _
        · exact h
      · split
        · exact h.joinQueue k _ _
        · exact (h.setPanel k _).wakeTrunk _
  · exact h

theorem CoreFlow.dropRecovery (h : CoreFlow s t) (k : Nat) : CoreFlow s (dropRecovery k t) := h.modifyTrunk _ _

theorem CoreFlow.startRecovery (h : CoreFlow s t) (k : Nat) : CoreFlow s (startRecovery k t) := h.modifyTrunk _ _

theorem CoreFlow.confirmShown (h : CoreFlow s t) (k : Nat) (p : Panel) (w : PendingShow) :
    CoreFlow s (confirmShown k p w t) := by
  unfold Machine.confirmShown
  exact (((h.setPanel k _).clearConditions _ _).wakeTrunk _).judgeMembership k

theorem CoreFlow.forgetShown (h : CoreFlow s t) (k : Nat) (p : Panel) : CoreFlow s (forgetShown k p t) := by
  unfold Machine.forgetShown
  exact ((h.setPanel k _).wakeTrunk _).judgeMembership k

theorem CoreFlow.takeDone (h : CoreFlow s t) (k : Nat) (d : Digest) : CoreFlow s (takeDone k d t) := by
  unfold Machine.takeDone
  split
  · exact h
  · split
    · split
      · exact h.confirmShown k _ _
      · exact (h.setLive _ _ _).forgetShown k _
    · exact (h.setPanel k _).judgeMembership k

theorem CoreFlow.becomeBlocked (h : CoreFlow s t) (k : Nat) : CoreFlow s (becomeBlocked k t) := by
  unfold Machine.becomeBlocked
  split
  · exact h
  · split
    · exact h
    · exact ((h.setPanel k _).setLive _ _ _).startRecovery k

theorem CoreFlow.failExchange (h : CoreFlow s t) (k : Nat) : CoreFlow s (failExchange k t) := by
  unfold Machine.failExchange
  split
  · exact h
  · split
    · exact h
    · dsimp only
      split
      · exact ((h.setPanel k _).setLive _ _ _).becomeBlocked k
      · exact h.setPanel k _

theorem CoreFlow.succeedExchange (h : CoreFlow s t) (k : Nat) : CoreFlow s (succeedExchange k t) := by
  unfold Machine.succeedExchange
  split
  · exact h
  · split
    · exact h
    · exact h.setPanel k _

theorem CoreFlow.adopt (h : CoreFlow s t) (k : Nat) (r : PanelStatus) : CoreFlow s (adopt k r t) := by
  unfold Machine.adopt
  split
  · dsimp only
    refine CoreFlow.judgeMembership (CoreFlow.wakeTrunk ?_ _) k
    split
    · exact ((h.setPanel k _).clearConditions _ _).dropRecovery k
    · exact (h.setPanel k _).clearConditions _ _
  · exact h

theorem CoreFlow.resolveOverdue (h : CoreFlow s t) (k : Nat) (r : PanelStatus) : CoreFlow s (resolveOverdue k r t) := by
  unfold Machine.resolveOverdue
  split
  · exact h
  · split
    · split
      · exact h.confirmShown k _ _
      · exact h.forgetShown k _
    · exact (h.setPanel k _).judgeMembership k

theorem CoreFlow.querySucceeded (h : CoreFlow s t) (k : Nat) (r : PanelStatus) : CoreFlow s (querySucceeded k r t) := by
  unfold Machine.querySucceeded
  split
  · exact h
  · split
    · exact h.adopt k r
    · split
      · exact (h.resolveOverdue k r).succeedExchange k
      · exact h.succeedExchange k

theorem CoreFlow.loadOutcome (h : CoreFlow s t) (k : Nat) (d : DispatchStep) (n : Nat) (b : Bool) :
    CoreFlow s (loadOutcome k d n b t) := by
  unfold Machine.loadOutcome
  split
  · exact h
  · split
    · exact h
    · dsimp only
      split
      · exact (h.modifyPanel k _).succeedExchange k
      · exact (h.modifyPanel k _).failExchange k

theorem CoreFlow.showAccepted (h : CoreFlow s t) (k : Nat) (d : DispatchStep) : CoreFlow s (showAccepted k d t) := by
  unfold Machine.showAccepted
  split
  · exact h
  · split
    · exact h
    · exact ((h.modifyPanel k _).succeedExchange k).judgeMembership k

theorem CoreFlow.showFailed (h : CoreFlow s t) (k : Nat) (d : DispatchStep) : CoreFlow s (showFailed k d t) := by
  unfold Machine.showFailed
  split
  · exact h
  · exact h.failExchange k

theorem CoreFlow.takeFault (h : CoreFlow s t) (k : Nat) : CoreFlow s (takeFault k t) := by
  unfold Machine.takeFault
  split
  · exact h.setLive _ _ _
  · exact h

theorem CoreFlow.takeSlotCorrupt (h : CoreFlow s t) (k j : Nat) : CoreFlow s (takeSlotCorrupt k j t) := by
  unfold Machine.takeSlotCorrupt
  split
  · exact h
  · dsimp only
    split
    · split
      · split
        · exact (h.setLive _ _ _).forgetShown k _
        · exact ((h.setLive _ _ _).setPanel k _).wakeTrunk _
      · exact ((h.setLive _ _ _).setPanel k _).wakeTrunk _
    · exact h.setLive _ _ _

theorem CoreFlow.takeSupply (h : CoreFlow s t) (k : Nat) : CoreFlow s (takeSupply k t) := by
  unfold Machine.takeSupply
  split
  · exact (h.setLive _ _ _).becomeBlocked k
  · exact h

theorem CoreFlow.countOut (h : CoreFlow s t) (k : Nat) : CoreFlow s (countOut k t) := by
  unfold Machine.countOut
  split
  · exact h
  · dsimp only
    split
    · exact ((h.setPanel k _).clearConditions _ _).dropRecovery k
    · exact (h.setPanel k _).clearConditions _ _

theorem CoreFlow.countResult (h : CoreFlow s t) (n m : Nat) : CoreFlow s (countResult n m t) := by
  unfold Machine.countResult
  refine CoreFlow.foldl (fun k u hu => ?_) _ t h
  split
  · exact hu.countOut k
  · exact hu.modifyPanel k _

theorem CoreFlow.stopPanels (h : CoreFlow s t) (n : Nat) : CoreFlow s (stopPanels n t) := by
  unfold Machine.stopPanels
  exact CoreFlow.foldl (fun k u hu => (hu.modifyPanel k _).clearConditions _ _) _ t h

theorem CoreFlow.releasePlate (h : CoreFlow s t) (id : Nat) : CoreFlow s (releasePlate id t) := by
  unfold Machine.releasePlate
  dsimp only
  refine CoreFlow.foldl (fun k u hu => ?_) _ _ (h.trans (by constructor <;> rfl))
  split
  · exact hu
  · exact hu.wakeTrunk k

theorem CoreFlow.forgetPanel (h : CoreFlow s t) (k : Nat) : CoreFlow s (forgetPanel k t) := by
  unfold Machine.forgetPanel
  exact ((h.clearConditions _ _).modifyTrunk _ _).withDispatcher _

theorem CoreFlow.createPanel (h : CoreFlow s t) (k : Nat) : CoreFlow s (createPanel k t) := by
  unfold Machine.createPanel
  dsimp only
  split
  · exact (h.setPanel k _).wakeTrunk _
  · exact h.setPanel k _

theorem CoreFlow.handOut (h : CoreFlow s t) (k : Nat) (p : Panel) (b : Bool) (d : DispatchStep) :
    CoreFlow s (handOut k p b d t) := by
  unfold Machine.handOut
  dsimp only
  exact (h.setPanel k _).withDispatcher _

/-! ### Resolver -/

theorem CoreFlow.resolveSign (h : CoreFlow s t) (k : Nat) : CoreFlow s (resolveSign k t) := by
  unfold Machine.resolveSign
  split
  · exact h
  · dsimp only
    split
    · exact h.setSign k _
    · exact (h.setSign k _).desiredChange k _

theorem CoreFlow.resolveWhere (h : CoreFlow s t) (f : Sign → Bool) : CoreFlow s (resolveWhere f t) :=
  CoreFlow.foldl (fun e _ hu => hu.resolveSign e.1) _ t h

theorem CoreFlow.settingsNotice (h : CoreFlow s t) : CoreFlow s (settingsNotice t) := h.resolveWhere _

theorem CoreFlow.dayListRequest (h : CoreFlow s t) (k : Nat) : CoreFlow s (dayListRequest k t) := by
  unfold Machine.dayListRequest
  split
  · exact h
  · split
    · exact h
    · dsimp only
      split
      · split
        · exact h.setSign k _
        · exact (h.setSign k _).resolveSign k
      · exact h

theorem CoreFlow.endView (h : CoreFlow s t) (k : Nat) : CoreFlow s (endView k t) := by
  unfold Machine.endView
  split
  · exact h
  · exact (h.setSign k _).resolveSign k

/-! ### Trunk Controllers -/

theorem CoreFlow.beginRun (h : CoreFlow s t) (id : Nat) : CoreFlow s (beginRun id t) := by
  unfold Machine.beginRun
  split
  · exact h
  · exact h.setPlate id _

theorem CoreFlow.carryStep (h : CoreFlow s t) (n k : Nat) (p : Panel) (b : Bool) (d : DispatchStep) :
    CoreFlow s (carryStep n k p b d t) := by
  unfold Machine.carryStep
  dsimp only
  split
  · exact (((h.handOut k p b d).modifyTrunk n _).setExchange n _).beginRun _
  · exact ((h.handOut k p b d).modifyTrunk n _).setExchange n _

theorem CoreFlow.dispatchStep (h : CoreFlow s t) (n : Nat) : CoreFlow s (dispatchStep n t) := by
  unfold Machine.dispatchStep
  split
  · exact h.carryStep n _ _ _ _
  · exact h

theorem CoreFlow.arbiter (h : CoreFlow s t) (n : Nat) : CoreFlow s (arbiter n t) := by
  unfold Machine.arbiter
  dsimp only
  split
  · exact h
  · exact h
  · split
    · exact (h.modifyTrunk n _).setExchange n _
    · exact h
  · split
    · exact (h.modifyTrunk n _).setExchange n _
    · split
      · exact h.setExchange n _
      · split
        · exact h.setExchange n _
        · exact h.dispatchStep n

theorem CoreFlow.settleTrunk (h : CoreFlow s t) (n : Nat) : CoreFlow s (settleTrunk n t) := by
  unfold Machine.settleTrunk
  dsimp only
  split
  · split
    · exact (h.modifyTrunk n _).arbiter n
    · exact h.modifyTrunk n _
  · exact h

theorem CoreFlow.settleTrunks (h : CoreFlow s t) : CoreFlow s (settleTrunks t) :=
  CoreFlow.foldl (fun n _ hu => hu.settleTrunk n) _ t h

theorem CoreFlow.beginWalk (h : CoreFlow s t) (n : Nat) : CoreFlow s (beginWalk n t) := h.modifyTrunk n _

theorem CoreFlow.takeStop (h : CoreFlow s t) (n : Nat) : CoreFlow s (takeStop n t) := (h.stopPanels n).modifyTrunk n _

theorem CoreFlow.enterFaulted (h : CoreFlow s t) (n : Nat) : CoreFlow s (enterFaulted n t) := h.modifyTrunk n _

theorem CoreFlow.continueWalk (h : CoreFlow s t) (n : Nat) : CoreFlow s (continueWalk n t) := by
  unfold Machine.continueWalk
  split
  · exact h.modifyTrunk n _
  · exact (h.modifyTrunk n _).arbiter n

theorem CoreFlow.decideNext (h : CoreFlow s t) (n : Nat) : CoreFlow s (decideNext n t) := by
  unfold Machine.decideNext
  dsimp only
  split
  · exact h.takeStop n
  · split
    · exact (h.dropStep n).continueWalk n
    · split
      · exact h.beginWalk n
      · exact (h.dropStep n).arbiter n
    · exact (h.dropStep n).arbiter n
    · exact h

theorem CoreFlow.afterExchange (h : CoreFlow s t) (n : Nat) : CoreFlow s (afterExchange n t) :=
  (h.setExchange n _).decideNext n

theorem CoreFlow.endCount (h : CoreFlow s t) (n : Nat) (f : List ChainEntry) : CoreFlow s (endCount n f t) := by
  unfold Machine.endCount
  dsimp only
  split
  · exact h.takeStop n
  · exact ((((h.modifyTrunk n _).countResult n _).setLive _ _ _).produce _).afterExchange n

theorem CoreFlow.passPosition (h : CoreFlow s t) (n p : Nat) : CoreFlow s (passPosition n p t) := h.modifyTrunk n _

theorem CoreFlow.restartRecovery (h : CoreFlow s t) (n p : Nat) : CoreFlow s (restartRecovery n p t) := by
  unfold Machine.restartRecovery
  split
  · split
    · exact h.startRecovery _
    · exact h
  · exact h

theorem CoreFlow.endQueryGood (h : CoreFlow s t) (n p : Nat) (r : PanelStatus) : CoreFlow s (endQueryGood n p r t) :=
  ((h.querySucceeded _ r).passPosition n p).afterExchange n

theorem CoreFlow.endQueryBad (h : CoreFlow s t) (n p : Nat) : CoreFlow s (endQueryBad n p t) :=
  (((h.restartRecovery n p).failExchange _).passPosition n p).afterExchange n

theorem CoreFlow.endShow (h : CoreFlow s t) (n p : Nat) (b : Bool) : CoreFlow s (endShow n p b t) := by
  unfold Machine.endShow
  split
  · split
    · exact (h.showAccepted _ _).afterExchange n
    · exact (h.showFailed _ _).afterExchange n
  · exact h.afterExchange n

theorem CoreFlow.takeReport (h : CoreFlow s t) (k : Nat) (r : PanelReport) : CoreFlow s (takeReport k r t) := by
  unfold Machine.takeReport
  split
  · split
    · exact h.dayListRequest k
    · exact h
  · exact h.takeDone k _
  · exact h.takeFault k
  · exact h.takeSlotCorrupt k _
  · exact h.takeFault k
  · exact h.takeSupply k

theorem CoreFlow.endCallGood (h : CoreFlow s t) (n p : Nat) (r : Option PanelReport) :
    CoreFlow s (endCallGood n p r t) := by
  unfold Machine.endCallGood
  split
  · split
    · exact (h.takeReport _ _).afterExchange n
    · exact h.afterExchange n
  · exact h.afterExchange n

theorem CoreFlow.seeLines (h : CoreFlow s t) (n : Nat) (a : Attention) : CoreFlow s (seeLines n a t) := h.modifyTrunk n _

theorem CoreFlow.startTrunk (h : CoreFlow s t) (n : Nat) (b : Bool) : CoreFlow s (startTrunk n b t) := by
  unfold Machine.startTrunk
  split
  · exact h.modifyTrunk n _
  · exact (h.modifyTrunk n _).beginWalk n

/-! ### The Resolver with the mismatch values -/

/-- `CoreFlow`, but for the mismatch values and the lamps they drive. -/
structure Flow (s t : State) : Prop where
  pending : t.pending = s.pending
  now : t.now = s.now
  nextSample : t.nextSample = s.nextSample
  nextAccrual : t.nextAccrual = s.nextAccrual
  pins : t.pins = s.pins
  link : t.link = s.link
  clock : t.clock = s.clock
  table : t.table = s.table
  layout : t.layout = s.layout
  sense : t.sense = { s.sense with lines := t.sense.lines, mismatch := t.sense.mismatch }
  plates : t.plates = { s.plates with plates := t.plates.plates }
  resolver : t.resolver = { s.resolver with signs := t.resolver.signs, mismatch := t.resolver.mismatch }
  health : t.health = { s.health with live := t.health.live, held := t.health.held, summary := t.health.summary }

theorem Flow.refl (s : State) : Flow s s := by constructor <;> rfl

theorem Flow.trans (h : Flow s t) (g : Flow t u) : Flow s u where
  pending := g.pending.trans h.pending
  now := g.now.trans h.now
  nextSample := g.nextSample.trans h.nextSample
  nextAccrual := g.nextAccrual.trans h.nextAccrual
  pins := g.pins.trans h.pins
  link := g.link.trans h.link
  clock := g.clock.trans h.clock
  table := g.table.trans h.table
  layout := g.layout.trans h.layout
  sense := by rw [g.sense, h.sense]
  plates := by rw [g.plates, h.plates]
  resolver := by rw [g.resolver, h.resolver]
  health := by rw [g.health, h.health]

theorem CoreFlow.flow (h : CoreFlow s t) : Flow s t where
  pending := h.pending
  now := h.now
  nextSample := h.nextSample
  nextAccrual := h.nextAccrual
  pins := h.pins
  link := h.link
  clock := h.clock
  table := h.table
  layout := h.layout
  sense := by rw [h.sense]
  plates := h.plates
  resolver := by rw [h.resolver]
  health := h.health

/-- The frame as one equation. -/
theorem Flow.eq (h : Flow s t) :
    t = { s with
      outbox := t.outbox
      plates := { s.plates with plates := t.plates.plates }
      sense := { s.sense with lines := t.sense.lines, mismatch := t.sense.mismatch }
      resolver := { s.resolver with signs := t.resolver.signs, mismatch := t.resolver.mismatch }
      dispatcher := t.dispatcher
      trunks := t.trunks
      health := { s.health with live := t.health.live, held := t.health.held, summary := t.health.summary } } := by
  obtain ⟨h1, h2, h3, h4, h5, h6, h7, h8, h9, h10, h11, h12, h13⟩ := h
  cases t
  simp only at *
  subst h1 h2 h3 h4 h5 h6 h7 h8 h9
  rw [← h10, ← h11, ← h12, ← h13]

theorem Flow.upstreamFrame (h : Flow s t) (hs : s.outbox = []) : UpstreamFrame s { t with outbox := [] } := by
  unfold UpstreamFrame
  have := h.eq
  conv => lhs; rw [this]
  rw [hs]

theorem Flow.foldl {α : Type} {f : State → α → State} (hf : ∀ a u, Flow s u → Flow s (f u a)) (l : List α) :
    ∀ t, Flow s t → Flow s (l.foldl f t) := by
  induction l with
  | nil => intro t h; exact h
  | cons a l ih => intro t h; exact ih _ (hf a t h)

theorem Flow.handMismatch (h : Flow s t) (n : Nat) (v : Bool) : Flow s (handMismatch n v t) := by
  unfold Machine.handMismatch
  split
  · exact h
  · have h1 := h.trans ((CoreFlow.refl t).setLive (.hall n) .layoutMismatch v).flow
    exact h1.trans (by constructor <;> rfl)

theorem Flow.evalMismatch (h : Flow s t) (n : Nat) : Flow s (evalMismatch n t) := by
  unfold Machine.evalMismatch
  dsimp only
  split
  · exact h
  · exact Flow.handMismatch (h.trans (by constructor <;> rfl)) n _

theorem Flow.evalAllMismatch (h : Flow s t) : Flow s (evalAllMismatch t) :=
  Flow.foldl (fun n _ hu => hu.evalMismatch n) _ t h

theorem Flow.resolveWhere (h : Flow s t) (f : Sign → Bool) : Flow s (resolveWhere f t) :=
  h.trans ((CoreFlow.refl t).resolveWhere f).flow

theorem Flow.resolveAll (h : Flow s t) : Flow s (resolveAll t) := (h.resolveWhere _).evalAllMismatch

theorem Flow.tableChange (h : Flow s t) (rooms : List Nat) : Flow s (tableChange rooms t) :=
  Flow.foldl (fun n _ hu => hu.evalMismatch n) _ _ (h.resolveWhere _)

theorem Flow.formationNotice (h : Flow s t) (halls : List Nat) : Flow s (formationNotice halls t) :=
  Flow.foldl (fun n _ hu => hu.evalMismatch n) _ _ (h.resolveWhere _)

theorem Flow.settleTrunks (h : Flow s t) : Flow s (settleTrunks t) :=
  h.trans ((CoreFlow.refl t).settleTrunks).flow

/-- A composition depends on nothing that resolution changes (R100). -/
theorem Flow.compositionOf (h : Flow s t) (g : Sign) : compositionOf t g = compositionOf s g := by
  rw [h.eq]
  rfl

theorem Flow.signPrimary (h : Flow s t) (g : Sign) : signPrimary t g = signPrimary s g := by
  rw [h.eq]
  rfl

theorem Flow.mismatchNow (h : Flow s t) (n : Nat) : mismatchNow t n = mismatchNow s n := by
  rw [h.eq]
  rfl

end Sys2Proof.Machine
end

