-- ==== Sys2Proof/Laws/Pool.lean ====
section
/-! SUPPORT. The laws of the page pool: a read after a write, and that every memory operation keeps the canonical form. -/

namespace Sys2Proof.Machine

theorem readByte_writeByte (m : List Host.Cell) (a b : Nat) (v : BitVec 8) :
    readByte (writeByte m a v) b = if a = b then v else readByte m b := by
  simp [readByte, writeByte, lookupD_assignD]

theorem poolWf_iff (m : List Host.Cell) :
    poolWf m = true ↔ risingKeys m = true ∧ ∀ c ∈ m, c.2 ≠ poolDefault := by
  simp [poolWf, List.all_eq_true]

theorem poolWf_writeByte {m : List Host.Cell} (h : poolWf m = true) (a : Nat) (v : BitVec 8) :
    poolWf (writeByte m a v) = true := by
  rw [poolWf_iff] at *
  refine ⟨risingKeys_assignD h.1 a v poolDefault, ?_⟩
  intro c hc
  unfold writeByte assignD at hc
  split at hc
  · exact h.2 c (List.mem_filter.mp hc).1
  · rename_i hv
    rcases mem_assign hc with rfl | hc
    · exact hv
    · exact h.2 c hc

theorem poolWf_writeContent (p : Plate) (bs : List Byte) :
    ∀ (offset : Nat) {m : List Host.Cell}, poolWf m = true → poolWf (writeContent p offset bs m) = true := by
  induction bs with
  | nil => intro offset m h; exact h
  | cons b bs ih => intro offset m h; exact ih (offset + 1) (poolWf_writeByte h _ b)

theorem readByte_writeContent_outside (p : Plate) (bs : List Byte) (a : Nat) :
    ∀ (offset : Nat) (m : List Host.Cell), (∀ i, i < bs.length → contentAddress p (offset + i) ≠ a) →
      readByte (writeContent p offset bs m) a = readByte m a := by
  induction bs with
  | nil => intro offset m _; rfl
  | cons b bs ih =>
    intro offset m h
    have h0 : contentAddress p offset ≠ a := h 0 (by simp)
    have hrest : ∀ i, i < bs.length → contentAddress p (offset + 1 + i) ≠ a := fun i hi => by
      have := h (i + 1) (by simp; omega)
      rwa [show offset + 1 + i = offset + (i + 1) by omega]
    rw [writeContent, ih (offset + 1) _ hrest, readByte_writeByte]
    simp [h0]

theorem poolWf_reset : poolWf State.reset.plates.pool = true := rfl

end Sys2Proof.Machine
end

