-- ==== Sys2Proof/Laws/Settle.lean ====
section
/-! SUPPORT. The end of a command: idle trunks decide, notices join, replies form. What a quiet state makes of it, and that
every command leaves a quiet state. -/

namespace Sys2Proof.Machine

variable {s t : State}

/-! ### The READY of a full reset -/

/-- READY touches the link alone. -/
theorem sendReady_eq (cause : ResetCause) (s : State) : sendReady cause s = { s with link := (sendReady cause s).link } := by
  unfold sendReady
  split <;> rfl

/-- A part that may transmit has READY on the line as its link stands (R12, R13). -/
theorem sendReady_of_heard {cause : ResetCause} (h : silenced s = false) : sendReady cause s = s := by
  simp [sendReady, h]

/-- A silenced part keeps READY waiting, its line idle (R16). -/
theorem sendReady_of_silenced {cause : ResetCause} (h : silenced s = true) :
    sendReady cause s = { s with link := { s.link with line := .idle, notices := [.ready cause] } } := by
  simp [sendReady, h, modifyLink]

/-- The release of the pin leaves the part silenced exactly while power is absent (R16). -/
theorem resetPins_pin (a b : Level) (p : Pins) :
    resetPins .pin a b p = { p with resetHeld := false, strap1 := a, strap0 := b } := by
  simp [resetPins]

/-- Power-on leaves the part silenced exactly while the pin is held (R16). -/
theorem resetPins_powerOn (a b : Level) (p : Pins) :
    resetPins .powerOn a b p = { p with powerAbsent := false, strap1 := a, strap0 := b } := by
  simp [resetPins]

/-- A restart ends neither (R16). -/
theorem resetPins_restart (a b : Level) (p : Pins) : resetPins .restart a b p = { p with strap1 := a, strap0 := b } := by
  simp [resetPins]

/-! ### The slot a LOAD run wrote -/

/-- The stamp is the one the run's outcome gives, whether or not the slot is then freed (R136). -/
theorem slotAfterRun_stamp (x : Slot) (id blocks acked now : Nat) (release : Bool) :
    (slotAfterRun x id blocks acked now release).stamp = (slotCounted x id blocks acked now).stamp := by
  cases release <;> rfl

/-- A marked slot is freed, whatever the outcome (R87, R136). -/
theorem slotAfterRun_released (x : Slot) (id blocks acked now : Nat) :
    slotAfterRun x id blocks acked now true = ⟨.free, (slotCounted x id blocks acked now).stamp⟩ := rfl

/-- A slot without the mark is as the run left it (R136). -/
theorem slotAfterRun_kept (x : Slot) (id blocks acked now : Nat) :
    slotAfterRun x id blocks acked now false = slotCounted x id blocks acked now := rfl

/-! ### Quiet states -/

/-- No trunk is told to decide. -/
theorem settled_iff : Settled s ↔ s.outbox = [] ∧ ∀ n, within Config.trunks n = true → (trunkOf s n).wake = false := by
  unfold Settled
  refine and_congr_right fun _ => ?_
  simp only [List.all_eq_true, Bool.not_eq_true', upTo, List.mem_map, List.mem_range, within, Bool.and_eq_true,
    decide_eq_true_eq]
  constructor
  · intro h n hn
    exact h n ⟨n - 1, by omega, by omega⟩
  · rintro h _ ⟨i, hi, rfl⟩
    exact h (i + 1) ⟨by omega, by omega⟩

/-- Quietness depends on the outbox and the trunks alone. -/
theorem Settled.congr (h : Settled s) (ho : t.outbox = s.outbox) (ht : t.trunks = s.trunks) : Settled t := by
  unfold Settled trunkOf at *
  rw [ho, ht]
  exact h

theorem settleTrunk_quiet {n : Nat} (h : (trunkOf s n).wake = false) : settleTrunk n s = s := by
  simp [settleTrunk, h]

/-- Trunks that are not told to decide do not. -/
theorem settleTrunks_quiet (h : ∀ n, within Config.trunks n = true → (trunkOf s n).wake = false) :
    settleTrunks s = s := by
  have key : ∀ l : List Nat, (∀ n ∈ l, (trunkOf s n).wake = false) →
      l.foldl (fun acc n => settleTrunk n acc) s = s := by
    intro l
    induction l with
    | nil => intro _; rfl
    | cons a l ih =>
      intro hl
      rw [List.foldl_cons, settleTrunk_quiet (hl a (by simp))]
      exact ih fun n hn => hl n (by simp [hn])
  refine key _ fun n hn => h n ?_
  simp only [upTo, List.mem_map, List.mem_range] at hn
  obtain ⟨i, hi, rfl⟩ := hn
  simp only [within, Bool.and_eq_true, decide_eq_true_eq]
  omega

theorem Settled.settleTrunks (h : Settled s) : settleTrunks s = s := settleTrunks_quiet (settled_iff.mp h).2

/-- An event that leaves the state quiet ends as it stands. -/
theorem Settled.flush (h : Settled s) : flush s = s := by
  unfold Machine.flush
  simp only [h.settleTrunks, h.1, List.foldl_nil]
  rw [← h.1]

theorem event_quiet {f : State → State} (h : Settled (f s)) : event f s = .next (f s) := by
  rw [event, h.flush]

/-- An event that leaves one notice and no trunk told to decide. -/
theorem event_one {f : State → State} {n : Notice} (h : Settled { f s with outbox := [] }) (ho : (f s).outbox = [n]) :
    event f s = .next (eventNotice n { f s with outbox := [] }) := by
  have hq : Machine.settleTrunks (f s) = f s :=
    settleTrunks_quiet fun k hk => (settled_iff.mp h).2 k hk
  simp only [event, Machine.flush, hq, ho, List.foldl_cons, List.foldl_nil]

/-- A request whose owner leaves the state quiet. -/
theorem request_quiet {tag : Byte} {h : Handler} (ht : tag ≠ 0) (hs : Settled (h s).1) :
    request tag h s = .next (answered tag (h s).2 [] (h s).1) := by
  simp only [request, serve, handled, ht, if_false, hs.settleTrunks, hs.1]
  rw [← hs.1]

/-- A request in general. -/
theorem request_eq {tag : Byte} {h : Handler} (ht : tag ≠ 0) :
    request tag h s = .next (answered tag (h s).2 (Machine.settleTrunks (h s).1).outbox
      { Machine.settleTrunks (h s).1 with outbox := [] }) := by
  simp only [request, serve, handled, ht, if_false]

/-- A refused request changes the link alone (R10). -/
theorem request_refused {tag : Byte} {h : Handler} {c : Status} (ht : tag ≠ 0) (hs : Settled s)
    (hh : h s = refused c s) : request tag h s = .next (answered tag (refusal c) [] s) := by
  have : Settled (h s).1 := by rw [hh]; exact hs
  rw [request_quiet ht this, hh]
  rfl

/-! ### Every command leaves a quiet state -/

theorem wake_setExchange (n : Nat) (e : Option Exchange) (m : Nat) :
    (trunkOf (setExchange n e s) m).wake = (trunkOf s m).wake := by
  simp only [setExchange, trunkOf_modifyTrunk]
  split
  · subst_vars; rfl
  · rfl

theorem wake_modifyTrunk {n : Nat} {f : Trunk → Trunk} (hf : ∀ x, (f x).wake = x.wake) (m : Nat) :
    (trunkOf (modifyTrunk n f s) m).wake = (trunkOf s m).wake := by
  simp only [trunkOf_modifyTrunk]
  split
  · subst_vars; exact hf _
  · rfl

theorem trunkOf_beginRun (id n : Nat) : trunkOf (beginRun id s) n = trunkOf s n := by
  unfold beginRun
  split <;> rfl

theorem trunkOf_handOut (k : Nat) (p : Panel) (b : Bool) (d : DispatchStep) (n : Nat) :
    trunkOf (handOut k p b d s) n = trunkOf s n := rfl

theorem wake_carryStep (n k : Nat) (p : Panel) (b : Bool) (d : DispatchStep) (m : Nat) :
    (trunkOf (carryStep n k p b d s) m).wake = (trunkOf s m).wake := by
  unfold carryStep
  dsimp only
  split
  · rw [trunkOf_beginRun, wake_setExchange]
    apply wake_modifyTrunk
    intro _; rfl
  · rw [wake_setExchange]
    apply wake_modifyTrunk
    intro _; rfl

/-- The arbiter tells no trunk to decide. -/
theorem wake_arbiter (n m : Nat) : (trunkOf (arbiter n s) m).wake = (trunkOf s m).wake := by
  unfold arbiter
  dsimp only
  split
  · rfl
  · rfl
  · split
    · rw [wake_setExchange]
      apply wake_modifyTrunk
      intro _; rfl
    · rfl
  · split
    · rw [wake_setExchange]
      apply wake_modifyTrunk
      intro _; rfl
    · split
      · rw [wake_setExchange]
      · split
        · rw [wake_setExchange]
        · unfold dispatchStep
          split
          · rw [wake_carryStep]
          · rfl

theorem wake_settleTrunk (n m : Nat) :
    (trunkOf (settleTrunk n s) m).wake = if n = m then false else (trunkOf s m).wake := by
  unfold settleTrunk
  dsimp only
  by_cases hw : (trunkOf s n).wake = true
  · have hx : (trunkOf (modifyTrunk n (fun y => { y with wake := false }) s) m).wake =
        if n = m then false else (trunkOf s m).wake := by
      simp only [trunkOf_modifyTrunk]
      split <;> rfl
    rw [if_pos hw]
    split
    · rw [wake_arbiter, hx]
    · exact hx
  · rw [if_neg hw]
    by_cases h : n = m
    · subst h; simpa using hw
    · simp [h]

theorem wake_settleTrunks (m : Nat) (hm : within Config.trunks m = true) :
    (trunkOf (settleTrunks s) m).wake = false := by
  have key : ∀ (l : List Nat) (u : State), (m ∈ l ∨ (trunkOf u m).wake = false) →
      (trunkOf (l.foldl (fun acc n => settleTrunk n acc) u) m).wake = false := by
    intro l
    induction l with
    | nil => intro u h; simpa using h
    | cons a l ih =>
      intro u h
      refine ih _ ?_
      rw [wake_settleTrunk]
      by_cases ha : a = m
      · simp [ha]
      · rcases h with h | h
        · rcases List.mem_cons.mp h with h | h
          · exact absurd h.symm ha
          · exact Or.inl h
        · simp [ha, h]
  refine key _ s (Or.inl ?_)
  simp only [within, Bool.and_eq_true, decide_eq_true_eq] at hm
  simp only [upTo, List.mem_map, List.mem_range]
  exact ⟨m - 1, by omega, by omega⟩

/-- The transmitter's arbitration touches the link alone. -/
theorem arbitrate_eq (s : State) : arbitrate s = { s with link := (arbitrate s).link } := by
  unfold arbitrate
  split <;> rfl

theorem eventNotice_eq (n : Notice) (s : State) : eventNotice n s = { s with link := (eventNotice n s).link } := by
  unfold eventNotice
  rw [arbitrate_eq]
  rfl

/-- A notice joining touches the link alone. -/
theorem foldl_eventNotice_eq (l : List Notice) :
    ∀ s : State, l.foldl (fun acc n => eventNotice n acc) s =
      { s with link := (l.foldl (fun acc n => eventNotice n acc) s).link } := by
  induction l with
  | nil => intro s; rfl
  | cons n l ih =>
    intro s
    rw [List.foldl_cons, ih, eventNotice_eq]

theorem answered_eq (tag : Byte) (a : Answer) (after : List Notice) (s : State) :
    answered tag a after s = { s with link := (answered tag a after s).link } := by
  unfold answered
  dsimp only
  rw [arbitrate_eq]
  rfl

/-- The end of an event: what the trunks do, and the link. -/
theorem flush_eq (s : State) : flush s = { settleTrunks s with outbox := [], link := (flush s).link } := by
  unfold flush
  dsimp only
  rw [foldl_eventNotice_eq]

theorem flush_settled (s : State) : Settled (flush s) := by
  rw [settled_iff, flush_eq]
  exact ⟨rfl, fun n hn => wake_settleTrunks n hn⟩

theorem serve_eq (tag : Byte) (h : Handler) (s : State) :
    serve tag h s = { settleTrunks (handled tag h s).1 with outbox := [], link := (serve tag h s).link } := by
  unfold serve
  dsimp only
  rw [answered_eq]

theorem serve_settled (tag : Byte) (h : Handler) (s : State) : Settled (serve tag h s) := by
  rw [settled_iff, serve_eq]
  exact ⟨rfl, fun n hn => wake_settleTrunks n hn⟩

end Sys2Proof.Machine
end

