-- ==== Sys2Proof/Tests/Slice0.lean ====
section
/-! SUPPORT. Tests of the model: the checks of well-formedness, the manual's worked examples, and for every statement with
hypotheses a witness that meets them. -/

namespace Sys2Proof.Tests

open Sys2Proof Sys2Proof.Machine

/- One proof after another: each kernel evaluation waits for the declarations before it, and as many waiting threads as there
are such proofs would take the memory that a compile of the whole package has. -/
set_option Elab.async false

/-! ### Well-formedness: one ill-formed term for each check -/

/-- Every command of a list is refused by the check. -/
def allRefused (l : List Instr) : Bool := l.all fun i => !i.wellFormed

theorem test_wellFormed_tags :
    allRefused
      [.identify 0, .status 0, .restartFull 0, .restartSigns 0, .clockSet 0 0 0 0, .clockRead 0, .ttApply 0 [],
       .roomTiming 0 1 0 0 0, .ttRead 0 0 0 0 1, .hallDefine 0 1 [] 1, .hallRemove 0 1, .wallDefine 0 1 1 2 1 1 2,
       .wallRemove 0 1, .wallSet 0 1 1, .roomDefine 0 1 1 [] 1, .roomRemove 0 1, .layoutSettle 0 1, .layoutRead 0 0,
       .senseConfig 0 1 0 0 0 0, .senseAck 0 [], .senseRead 0, .plateOpen 0 1 1 0, .plateData 0 1 0 [], .plateClose 0 1,
       .plateDelete 0 1, .plateList 0 1 1, .poolWatch 0 1, .settingsPlates 0 ⟨0, 0, 0, 0, 0, 0, 0⟩,
       .signDefine 0 1 1 (.door 1 0), .signRemove 0 1 1, .signRead 0 1 1, .trunkStart 0 1 0, .trunkStop 0 1,
       .trunkCount 0 1, .trunkCheck 0 1, .healthArm 0 1, .healthClear 0 1 1 1 1, .healthSelect 0 1 1, .healthWindow 0 1 4,
       .healthRead 0 1 1 1 1] = true := by decide +kernel

theorem test_wellFormed_clock_and_timetable :
    allRefused
      [.clockSet 1 65536 0 0, .clockSet 1 0 65536 0, .clockSet 1 0 0 256, .ttApply 1 (List.replicate 256 (.cancel 1)),
       .ttApply 1 [.add 65536 1 0 1 0 0 0], .ttApply 1 [.add 1 256 0 1 0 0 0], .ttApply 1 [.add 1 1 4294967296 1 0 0 0],
       .ttApply 1 [.add 1 1 0 4294967296 0 0 0], .ttApply 1 [.add 1 1 0 1 256 0 0], .ttApply 1 [.add 1 1 0 1 0 256 0],
       .ttApply 1 [.add 1 1 0 1 0 0 256], .ttApply 1 [.amend 65536 none none none none none],
       .ttApply 1 [.amend 1 (some 4294967296) none none none none], .ttApply 1 [.amend 1 none (some 4294967296) none none none],
       .ttApply 1 [.amend 1 none none (some 256) none none], .ttApply 1 [.amend 1 none none none (some 256) none],
       .ttApply 1 [.amend 1 none none none none (some 256)], .ttApply 1 [.move 65536 1 none none],
       .ttApply 1 [.move 1 256 none none], .ttApply 1 [.move 1 1 (some 4294967296) none],
       .ttApply 1 [.move 1 1 none (some 4294967296)], .ttApply 1 [.cancel 65536], .ttApply 1 [.remove 65536],
       .ttApply 1 [.dismiss 256 0], .ttApply 1 [.dismiss 1 4294967296], .roomTiming 1 256 0 0 0, .roomTiming 1 1 256 0 0,
       .roomTiming 1 1 0 256 0, .roomTiming 1 1 0 0 256, .ttRead 1 256 0 0 1, .ttRead 1 0 4294967296 0 1,
       .ttRead 1 0 0 65536 1, .ttRead 1 0 0 0 256] = true := by decide +kernel

theorem test_wellFormed_layout_and_sense :
    allRefused
      [.hallDefine 1 256 [] 1, .hallDefine 1 1 (List.replicate 256 1) 1, .hallDefine 1 1 [256] 1, .hallDefine 1 1 [] 256,
       .hallRemove 1 256, .wallDefine 1 256 1 2 1 1 2, .wallDefine 1 1 256 2 1 1 2, .wallDefine 1 1 1 256 1 1 2,
       .wallDefine 1 1 1 2 256 1 2, .wallDefine 1 1 1 2 1 256 2, .wallDefine 1 1 1 2 1 1 256, .wallRemove 1 256,
       .wallSet 1 256 1, .wallSet 1 1 256, .roomDefine 1 256 1 [] 1, .roomDefine 1 1 256 [] 1,
       .roomDefine 1 1 1 (List.replicate 256 1) 1, .roomDefine 1 1 1 [256] 1, .roomDefine 1 1 1 [] 256, .roomRemove 1 256,
       .layoutSettle 1 256, .layoutRead 1 256, .wallHoldExpiry 0, .wallHoldExpiry 33, .lineLevelChange 0 .low,
       .lineLevelChange 25 .low, .filterExpiry 0, .filterExpiry 25, .senseConfig 1 256 0 0 0 0, .senseConfig 1 1 256 0 0 0,
       .senseConfig 1 1 0 256 0 0, .senseConfig 1 1 0 0 256 0, .senseConfig 1 1 0 0 0 256,
       .senseAck 1 (List.replicate 256 1), .senseAck 1 [256]] = true := by decide +kernel

theorem test_wellFormed_plates_and_signs :
    allRefused
      [.plateOpen 1 256 1 0, .plateOpen 1 1 4294967296 0, .plateData 1 256 0 [], .plateData 1 1 4294967296 [],
       .plateClose 1 256, .plateDelete 1 256, .plateList 1 256 1, .plateList 1 1 256, .poolWatch 1 65536,
       .settingsPlates 1 ⟨256, 0, 0, 0, 0, 0, 0⟩, .settingsPlates 1 ⟨0, 256, 0, 0, 0, 0, 0⟩,
       .settingsPlates 1 ⟨0, 0, 256, 0, 0, 0, 0⟩, .settingsPlates 1 ⟨0, 0, 0, 256, 0, 0, 0⟩,
       .settingsPlates 1 ⟨0, 0, 0, 0, 256, 0, 0⟩, .settingsPlates 1 ⟨0, 0, 0, 0, 0, 256, 0⟩,
       .settingsPlates 1 ⟨0, 0, 0, 0, 0, 0, 256⟩, .signDefine 1 256 1 (.door 1 0), .signDefine 1 1 256 (.door 1 0),
       .signDefine 1 1 1 (.door 256 0), .signDefine 1 1 1 (.door 1 256),
       .signDefine 1 1 1 (.corridor (List.replicate 256 (1, 1))), .signDefine 1 1 1 (.corridor [(256, 1)]),
       .signDefine 1 1 1 (.corridor [(1, 256)]), .signDefine 1 1 1 (.other 256 1 0), .signDefine 1 1 1 (.other 1 1 0),
       .signDefine 1 1 1 (.other 2 1 0), .signDefine 1 1 1 (.other 3 256 0), .signDefine 1 1 1 (.other 3 1 256),
       .signRemove 1 256 1, .signRemove 1 1 256, .signRead 1 256 1, .signRead 1 1 256, .viewExpiry 0 1, .viewExpiry 5 1,
       .viewExpiry 1 0, .viewExpiry 1 31, .overdueDeadlineExpiry 5 1, .overdueDeadlineExpiry 1 31] = true := by decide +kernel

theorem test_wellFormed_long_chunk : (Instr.plateData 1 1 0 (List.replicate 1016 0)).wellFormed = false := by
  decide +kernel

theorem test_wellFormed_trunks_and_health :
    allRefused
      [.trunkStart 1 256 0, .trunkStart 1 1 256, .trunkStop 1 256, .trunkCount 1 256, .trunkCheck 1 256,
       .stopTakesEffect 0 .timeout quietLines, .stopTakesEffect 5 .timeout quietLines,
       .stopTakesEffect 1 (.probe (.openAt 31)) quietLines, .rewalkBegin 5 .timeout quietLines,
       .rewalkBegin 1 (.probe (.openAt 31)) quietLines, .countReply 5 [] quietLines, .queryReply 5 [] quietLines,
       .loadAck 5 [] quietLines, .showAnswer 5 [] quietLines, .callReply 5 [] quietLines, .trunkReplyTimeout 5 quietLines,
       .strayTrunkFrame 5 [], .attentionLineRise 5 4, .attentionLineRise 1 3, .attentionLineRise 1 8,
       .probeIntervalExpiry 5, .probeEnd 5 .ok quietLines, .probeEnd 1 (.openAt 31) quietLines, .recoveryTimerExpiry 5 1,
       .recoveryTimerExpiry 1 31, .healthArm 1 256, .healthClear 1 256 1 1 1, .healthClear 1 1 256 1 1,
       .healthClear 1 1 1 256 1, .healthClear 1 1 1 1 65536, .healthSelect 1 256 1, .healthSelect 1 1 256,
       .healthWindow 1 256 4, .healthWindow 1 1 256, .healthRead 1 256 1 1 1, .healthRead 1 1 256 1 1,
       .healthRead 1 1 1 256 1, .healthRead 1 1 1 1 256] = true := by decide +kernel

/-! ### States the tests start from -/

/-- READY has left the line and nothing is sent. -/
def quiet : State := { State.reset with link := { State.reset.link with line := .idle, readySent := true } }

/-- The quiet state at a venue minute of day 2. -/
def atMinute (minute : Nat) (s : State) : State :=
  { s with clock := ⟨true, 2, minute, 0, some (s.now + 1000)⟩ }

/-- A READY plate of one page. -/
def readyPlate (page : Nat) : Plate := ⟨.ready, 1, [page], 1, 0, 0, 0, 0, 0⟩

/-- A SCHEDULED session without banner. -/
def booked (number room start stop title : Nat) : Entry := ⟨.session number false, room, start, stop, title, 0, false⟩

/-- Hall C of the manual's examples: hall 3 with segments 21 to 23, walls 7 (CLOSED) and 8 (OPEN), room definitions 30 to 32,
the plates and settings they use, and the given entries. -/
def hallC (entries : List Entry) : State :=
  let base := quiet
  let rooms : Table Room := [(30, ⟨3, [21, 22, 23], 61⟩), (31, ⟨3, [21], 62⟩), (32, ⟨3, [22, 23], 63⟩)]
  { base with
    table := ⟨entries, 1, [(30, ⟨60, 15, 5⟩), (31, ⟨60, 15, 30⟩), (32, ⟨60, 15, 5⟩)]⟩
    layout :=
      { halls := [(3, ⟨[21, 22, 23], 60, [⟨[21], some 31⟩, ⟨[22, 23], some 32⟩], false⟩)]
        walls := [(7, ⟨3, 21, 22, .manual, .closed⟩), (8, ⟨3, 22, 23, .manual, .opened⟩)]
        rooms := rooms
        settle := 8 }
    plates :=
      { base.plates with
        plates := [(12, readyPlate 1), (13, readyPlate 2), (14, readyPlate 3), (17, readyPlate 4)]
        freeCount := 2044
        settings := ⟨3, 4, 5, 6, 7, 8, 8⟩ } }

/-- The table before the manual's batch example (chapter 02). -/
def beforeBatch : List Entry := [booked 410 30 3840 3900 14, booked 401 31 3720 3810 12, booked 402 32 3720 3780 13]

/-- The table the batch leaves (chapter 02). -/
def afterBatch : List Entry :=
  [booked 410 30 3840 3900 14, booked 404 31 3720 3780 17,
   ⟨.tombstone 1 (some 401), 31, 3720, 3810, 12, 0, false⟩, booked 402 32 3720 3780 13, booked 401 32 3780 3810 12]

/-- The state a command leaves. -/
def after (i : Instr) (s : State) : State :=
  match exec i s with
  | .next t => t
  | .fault _ => s
  | .refused _ => s

/-- Status and payload of the reply last formed. -/
def replyOf (s : State) : Option (Status × List Byte) :=
  s.link.service.getLast?.map fun r => (r.reply.status, r.reply.payload)

/-! ### The manual's worked examples -/

/-- R201's two digests. -/
theorem test_digest :
    digest [] = 0xFFFF ∧ digest [0x31, 0x32, 0x33, 0x34, 0x35, 0x36, 0x37, 0x38, 0x39] = 0x29B1 := by decide +kernel

/-- Chapter 01, a noisy start of frame: the receiver's states down to the second false start. -/
theorem test_receiver_noisy_start :
    [0x3C, 0xA5, 0x07, 0xA5, 0x00, 0xA5, 0x00, 0x02].foldl (fun r b => (advance r.1 b, r.2 ++ [(advance r.1 b).state]))
        (Receiver.idle, []) =
      (⟨.body, [0x00, 0x02], 2⟩, [.hunt, .length, .length, .hunt, .hunt, .length, .length, .body]) := by decide

/-- Chapter 02, the batch that moves one session and books its room again: table and reply. -/
theorem test_batch_table :
    (after (.ttApply 1 [.move 401 32 (some 3780) (some 3810), .add 404 31 3720 3780 17 0 0]) (hallC beforeBatch)).table.entries =
      afterBatch := by decide +kernel

theorem test_batch_reply :
    replyOf (after (.ttApply 1 [.move 401 32 (some 3780) (some 3810), .add 404 31 3720 3780 17 0 0]) (hallC beforeBatch)) =
      some (.ok, [0, 5]) := by decide +kernel

/-- Chapter 02, the batch refused at its first and, amended otherwise, at its second operation. -/
theorem test_batch_refused :
    replyOf (after (.ttApply 1 [.amend 402 none (some 3790) none none none, .add 405 32 3810 3870 0 0 0]) (hallC afterBatch)) =
        some (.overlap, [1]) ∧
      replyOf (after (.ttApply 1 [.amend 402 none (some 3775) none none none, .add 405 32 3810 3870 0 0 0]) (hallC afterBatch)) =
        some (.overlap, [2]) := by decide +kernel

/-- Chapter 02, three minute events: what is left of the table. -/
theorem test_purges :
    (purgedEntries (hallC afterBatch) 3785).map sessionNumber = [some 410, some 404, none, some 401] ∧
      (purgedEntries (hallC (purgedEntries (hallC afterBatch) 3785)) 3810).map sessionNumber = [some 410, none, some 401] ∧
      (purgedEntries (hallC (purgedEntries (hallC (purgedEntries (hallC afterBatch) 3785)) 3810)) 3815).map sessionNumber =
        [some 410] := by decide

/-- Hall 5 of chapter 03 with the settled states of its walls 11 and 12. -/
def hall5 (w11 w12 : WallState) : State :=
  { quiet with
    layout :=
      { halls := [(5, ⟨[31, 32, 33, 34], 40, [], false⟩)]
        walls :=
          [(11, ⟨5, 31, 32, .sensed 13 14 .moving none, w11⟩), (12, ⟨5, 32, 33, .manual, w12⟩),
           (13, ⟨5, 34, 33, .manual, .opened⟩)]
        rooms :=
          [(50, ⟨5, [31, 32, 33, 34], 41⟩), (51, ⟨5, [31], 42⟩), (52, ⟨5, [32], 43⟩), (53, ⟨5, [33, 34], 44⟩),
           (54, ⟨5, [31, 32], 45⟩)]
        settle := 8 } }

/-- Chapter 03, formations of hall 5. -/
theorem test_formations :
    formationOf (hall5 .unknown .closed) [31, 32, 33, 34] =
        [⟨[31], some 51⟩, ⟨[32], some 52⟩, ⟨[33, 34], some 53⟩] ∧
      formationOf (hall5 .opened .closed) [31, 32, 33, 34] = [⟨[31, 32], some 54⟩, ⟨[33, 34], some 53⟩] ∧
      formationOf (hall5 .opened .opened) [31, 32, 33, 34] = [⟨[31, 32, 33, 34], some 50⟩] ∧
      formationOf (hall5 .closed .opened) [31, 32, 33, 34] = [⟨[31], some 51⟩, ⟨[32, 33, 34], none⟩] := by decide

/-- Chapter 03, defining a hall: wall 13 is needed, 32 and 34 are not joined, {33, 34} is taken. -/
theorem test_hall5_refusals :
    replyOf (after (.wallRemove 1 13) (hall5 .unknown .closed)) = some (.inUse, []) ∧
      replyOf (after (.roomDefine 1 55 5 [32, 34] 45) (hall5 .unknown .closed)) = some (.outOfRange, []) ∧
      replyOf (after (.roomDefine 1 56 5 [34, 33] 45) (hall5 .unknown .closed)) = some (.exists, []) ∧
      replyOf (after (.wallDefine 1 14 33 34 2 2 0) (hall5 .unknown .closed)) = some (.exists, []) := by decide +kernel

/-- Chapter 03, a wall that bounces: raw states and the holds they start. -/
theorem test_raw_states :
    rawStateFrom (some .high) (some .high) = .moving ∧ rawStateFrom (some .high) (some .low) = .opened ∧
      rawStateFrom (some .low) (some .low) = .conflict ∧ rawStateFrom (some .low) none = .moving ∧
      holdAfter .opened .closed 8 19600 = some ⟨true, 8, 27600⟩ ∧ holdAfter .opened .opened 8 40300 = none := by decide

/-- Chapter 04, the door contact after 1030 ms: filtered HIGH, candidate LOW until 1080. -/
def doorContact : State :=
  setLine 7 ⟨.low, .contact ⟨some .high, some (.low, 1080)⟩ .low .rise 3 false false⟩ { quiet with now := 1030 }

/-- Chapter 04, the edge at 1080 ms, and the acknowledgement of lines 7 and 9. -/
theorem test_door_contact :
    lineOf (after (.filterExpiry 7) doorContact) 7 = ⟨.low, .contact ⟨some .low, none⟩ .low .rise 3 true true⟩ ∧
      (after (.filterExpiry 7) doorContact).link.line = .notice (.senseEdge 7 true) ∧
      (after (.filterExpiry 7) doorContact).resolver.doors = [3] ∧
      replyOf (after (.senseAck 1 [7, 9]) (after (.filterExpiry 7) doorContact)) = some (.ok, [1, 7]) := by decide +kernel

/-- Chapter 05, uploading a 9,000-byte plate: pages, blocks, the reply to PLATE_OPEN at a free count of 1990. -/
theorem test_plate_sizes :
    pagesFor 9000 = 36 ∧ blocksFor 9000 = 141 ∧
      replyOf (after (.plateOpen 1 23 9000 0) { quiet with plates := { quiet.plates with freeCount := 1990 } }) =
        some (.ok, u8 23 ++ u16 36 ++ u16 1954) := by decide +kernel

/-- Chapter 06, one session across its phases. -/
theorem test_phases :
    [3659, 3660, 3704, 3705, 3719, 3720, 3809, 3810, 3814, 3815].map (fun n => phaseAt ⟨60, 15, 5⟩ n 3720 3810) =
      [.none, .upcoming, .upcoming, .doors, .doors, .underway, .underway, .closing, .closing, .none] := by decide

/-- Chapter 06, the time and progress fields of that session. -/
theorem test_time_fields :
    timeField .upcoming 3660 3720 3810 = ⟨.clock, 840, 0⟩ ∧ timeField .doors 3707 3720 3810 = ⟨.countdown, 13, 0⟩ ∧
      timeField .closing 3814 3720 3810 = ⟨.clock, 930, 0⟩ ∧
      [3720, 3770, 3809].map (fun n => progressOf .underway n 3720 3810) = [some 0, some 8, some 15] := by decide

/-- Chapter 06, door sign (1, 5) on segment 22 at venue minute 3782. -/
theorem test_door_sign_22 :
    doorComposition (atMinute 902 (hallC afterBatch)) 22 false =
      { Composition.empty .session with
        layers := ⟨63, 12, 0, 14, 0, 0⟩, phase := .underway, time := ⟨.clock, 930, 0⟩, progress := some 1
        nextStart := some 960 } := by decide +kernel

/-- Chapter 06, door sign (1, 4) on segment 21 at venue minute 3700: the tombstone is primary. -/
theorem test_door_sign_21 :
    doorComposition (atMinute 820 (hallC afterBatch)) 21 false =
      { Composition.empty .movedNotice with
        layers := ⟨62, 8, 63, 12, 0, 0⟩, phase := .upcoming, time := ⟨.clock, 900, 0⟩ } := by decide +kernel

/-- Chapter 07, a feed step that evicts slot 8. -/
theorem test_eviction :
    chooseSlot
      ⟨.present, none, none, .none, 8, 0,
       [⟨.loaded 62 1, 1160⟩, ⟨.loaded 17 1, 1160⟩, ⟨.loaded 14 1, 1160⟩, ⟨.loaded 8 1, 900⟩, ⟨.loaded 12 1, 900⟩,
        ⟨.loaded 63 1, 900⟩, ⟨.filling 20 1, 300⟩, ⟨.loaded 5 1, 0⟩], none⟩
      { Composition.empty .session with layers := ⟨61, 14, 0, 0, 0, 0⟩ } 61 = some 8 := by decide

/-- Chapter 08, the runs of a 9,000-byte plate: groups, extension at the 8th acknowledgement, a run without decision. -/
theorem test_load_runs :
    ((planRun 7 5 23 1 141).planned, (planRun 7 5 23 1 141).groupEnd) = (8, 16) ∧
      (extendRun { planRun 7 5 23 129 141 with acked := 8 } true quietLines).planned = 141 ∧
      (extendRun { planRun 7 5 23 129 141 with acked := 8 } true ⟨true, false, false, false⟩).planned = 136 ∧
      ((planRun 7 5 23 137 141).planned, (planRun 7 5 23 9 141).planned) = (141, 16) := by decide

/-- Chapter 09, a WALL window through three ends. -/
theorem test_windows : [5, 3, 2].map (judgeWindow 8) = [some true, none, some false] := by decide

/-- Chapter 09, a short on trunk 3, as its 8th line test is in flight. -/
def shortOn3 : State :=
  { quiet with
    trunks := [(3, { Trunk.reset with state := .running, probing := true, exchange := some .probe, probeInterval := some 9 })]
    health := { Health.reset with trunkClass := .armed, lineWindows := [(3, ⟨4, 3, 3, 0, 0⟩)] } }

/-- Chapter 09, the end of that test: FAULTED, LINE_SHORT held, ALERT low, k 12. -/
theorem test_short_on_trunk_3 :
    (trunkOf (after (.probeEnd 3 (.openAt 12) quietLines) shortOn3) 3).state = .faulted ∧
      (after (.probeEnd 3 (.openAt 12) quietLines) shortOn3).health.held = [⟨.trunk 3, .lineShort⟩] ∧
      alertLow (after (.probeEnd 3 (.openAt 12) quietLines) shortOn3) = true ∧
      (lineWindowOf (after (.probeEnd 3 (.openAt 12) quietLines) shortOn3) 3).latestK = 12 := by decide +kernel

/-! ### Witnesses: states and operands that meet the hypotheses of each statement -/

theorem reset_settled : Settled State.reset := ⟨rfl, by decide⟩

theorem quiet_settled : Settled quiet := ⟨rfl, by decide⟩

theorem witness_StepTakesTheFrontCommand :
    { State.reset with pending := [.badStopBit] }.pending = .badStopBit :: [] ∧ State.reset.pending = [] := ⟨rfl, rfl⟩

theorem witness_FullResetValues :
    risingKeys doorContact.sense.lines = true ∧ risingKeys shortOn3.trunks = true := by decide

/-- Power returns while the RESET pin is held: READY waits, and the pin's release sends one of its own (R16). -/
theorem test_ready_waits_for_the_pin :
    let held := after (.fullReset .powerOn .high .low) { quiet with pins := ⟨true, true, .low, .low, 0⟩ }
    (held.pins, held.link.line, held.link.notices) = (⟨true, false, .high, .low, 0⟩, .idle, [.ready .powerOn]) ∧
      (after (.byteReceived 0xA5) held).link.receiver.state = .hunt ∧
      (after (.fullReset .pin .low .low) held).link = Link.reset 57600 .pin := by decide

theorem witness_DigestRule :
    0 < (readyPlate 1).size ∧
      { Composition.empty .dayList with
          lines := List.replicate 4 ⟨0, .none, .empty⟩, starts := [1, 2, 3, 4, 5] }.starts.length ≤ 5 := by decide

theorem witness_IdentifyReports : (255 : Byte) ≠ 0 ∧ Settled quiet := ⟨by decide, quiet_settled⟩

theorem witness_StatusReports : (1 : Byte) ≠ 0 ∧ Settled (hallC afterBatch) := ⟨by decide, rfl, by decide⟩

/-- A reply waiting to be sent. -/
def waitingReply (resetAfter : Bool) : Service := ⟨⟨1, .ok, false, false, []⟩, [.linkDropped 2], resetAfter⟩

/-- A link that has just sent a reply, with a notice waiting. -/
def noticeWaits : State :=
  { quiet with link := { quiet.link with lastSent := .reply, notices := [.linkDropped 9] } }

/-- A reply on the line with `n` notices waiting. -/
def replying (n : Nat) (resetAfter : Bool) : State :=
  { quiet with
    link :=
      { quiet.link with
        line := .reply, service := [waitingReply resetAfter], notices := List.replicate n (.linkDropped 9) } }

theorem witness_RepliesAndArbitration :
    State.reset.link.line ≠ .idle ∧
      (silenced quiet = false ∧ quiet.link.line = .idle ∧ (quiet.link.notices = [] ∨ quiet.link.lastSent ≠ .reply)) ∧
      (silenced noticeWaits = false ∧ noticeWaits.link.line = .idle ∧ noticeWaits.link.lastSent = .reply ∧
        noticeWaits.link.notices = .linkDropped 9 :: []) ∧
      (replying 0 false).link.service = waitingReply false :: [] := by decide

/-- Two notices on the line, up to their CHECK bytes (R3, spec/10 Notices). -/
theorem test_notice_frames :
    (frameBytes { quiet.link with line := .notice (.health (.trunk 2) .lineOpen true true 30) }).take 11 =
        [0xA5, 0, 8, 0xC4, 0, 2, 0, 2, 7, 3, 30] ∧
      (frameBytes { quiet.link with line := .notice (.countDone 4 [⟨3, 8, 0⟩]) }).take 10 =
        [0xA5, 0, 7, 0xC6, 0, 4, 1, 3, 8, 0] := by decide

/-- An idle line with a reply due, as an event finds it that ends a request. -/
def replyDue (last : LastSent) : State :=
  { quiet with link := { quiet.link with service := [waitingReply false], lastSent := last } }

/-- A notice meets a busy line with 31 and with 32 waiting, an idle line, and an idle line with a reply due. -/
theorem witness_RepliesAndArbitration_notices :
    ((replying 31 false).link.line ≠ .idle ∧ (replying 31 false).link.notices.length < 32) ∧
      ((replying 32 false).link.line ≠ .idle ∧ ¬ (replying 32 false).link.notices.length < 32) ∧
      (silenced quiet = false ∧ quiet.link.line = .idle ∧ quiet.link.service = [] ∧
        quiet.link.notices ++ [Notice.linkDropped 1] = .linkDropped 1 :: []) ∧
      (silenced (replyDue .reply) = false ∧ (replyDue .reply).link.line = .idle ∧ (replyDue .reply).link.lastSent = .reply) ∧
      (replyDue .notice).link.line = .idle ∧ (replyDue .notice).link.service ≠ [] ∧
      (replyDue .notice).link.lastSent ≠ .reply := by decide

/-- The 32nd notice joins, the 33rd is lost with the overflow flag (R12); an idle line takes the notice at once (R13). -/
theorem test_notices_join :
    ((eventNotice (.linkDropped 1) (replying 31 false)).link.notices.length,
        (eventNotice (.linkDropped 1) (replying 31 false)).link.overflow) = (32, false) ∧
      (eventNotice (.linkDropped 1) (replying 32 false)).link = { (replying 32 false).link with overflow := true } ∧
      (eventNotice (.linkDropped 1) quiet).link = { quiet.link with line := .notice (.linkDropped 1) } := by decide

theorem witness_FrameLeavesTheLine :
    Settled quiet ∧ quiet.link.line = .idle ∧ Settled State.reset ∧ silenced State.reset = false ∧
      State.reset.link.line = .notice (.ready .powerOn) ∧
      State.reset.link.service = [] ∧ State.reset.link.notices = [] ∧ Settled (replying 32 false) ∧
      silenced (replying 32 false) = false ∧ (replying 32 false).link.line = .reply ∧
      (replying 32 false).link.service = waitingReply false :: [] ∧ (waitingReply false).resetAfter = false ∧
      (replying 32 false).link.notices.length ≤ 32 ∧ Settled (replying 0 true) ∧
      (replying 0 true).link.service = waitingReply true :: [] ∧ (waitingReply true).resetAfter = true := by
  unfold Settled; decide +kernel

/-- A notice on the line, with a reply or with another notice behind it. -/
def noticeSending (service : List Service) (notices : List Notice) : State :=
  { quiet with
    link := { quiet.link with line := .notice (.linkDropped 3), service := service, notices := notices } }

theorem witness_FrameLeavesTheLine_behind_a_notice :
    Settled (noticeSending [waitingReply false] []) ∧ silenced (noticeSending [waitingReply false] []) = false ∧
      (noticeSending [waitingReply false] []).link.service ≠ [] ∧ Settled (noticeSending [] [.linkDropped 9]) ∧
      (noticeSending [] [.linkDropped 9]).link.service = [] ∧
      (noticeSending [] [.linkDropped 9]).link.notices = .linkDropped 9 :: [] := by unfold Settled; decide

/-- The quiet state with a receiver. -/
def receiving (r : Receiver) : State := { quiet with link := { quiet.link with receiver := r } }

theorem witness_ReceiverAdvances :
    Settled (receiving ⟨.body, [0, 2], 2⟩) ∧ silenced (receiving ⟨.body, [0, 2], 2⟩) = false ∧
      (receiving ⟨.hunt, [], 0⟩).link.receiver.state = .hunt ∧ (0xA4 : Byte) ≠ 0xA5 ∧
      (receiving ⟨.length, [], 2⟩).link.receiver.held = [] ∧ (receiving ⟨.length, [4], 1⟩).link.receiver.held = [4] ∧
      (receiving ⟨.body, [0, 2], 2⟩).link.receiver.expected = 0 + 2 ∧
      (receiving ⟨.body, [0, 2, 1], 1⟩).link.receiver.expected = 1 ∧
      (receiving ⟨.check, [0, 2, 1, 9], 2⟩).link.receiver.expected = 2 ∧
      silenced { quiet with pins := { quiet.pins with resetHeld := true } } = true := by unfold Settled; decide

/-- A frame with no payload whose digest's low byte is still to come. -/
def lastByteDue (queued : Nat) (high : Byte) : State :=
  { quiet with
    link :=
      { quiet.link with
        receiver := ⟨.check, [0, 2, 1, 9] ++ [high], 1⟩, queue := List.replicate queued ⟨0x01, 9, []⟩ } }

/-- The digest of that frame, in two bytes. -/
def checkHigh : Byte := (digest [0, 2, 1, 9] >>> 8).truncate 8
def checkLow : Byte := (digest [0, 2, 1, 9]).truncate 8

theorem witness_CompleteFrameIsJudged :
    Settled (lastByteDue 3 checkHigh) ∧ silenced (lastByteDue 3 checkHigh) = false ∧
      (lastByteDue 3 checkHigh).link.receiver = ⟨.check, 0 :: 2 :: 1 :: 9 :: [] ++ [checkHigh], 1⟩ ∧
      digest (0 :: 2 :: 1 :: 9 :: []) = readDigest checkHigh checkLow ∧
      digest (0 :: 2 :: 1 :: 9 :: []) ≠ readDigest checkHigh (checkLow + 1) ∧
      (lastByteDue 3 checkHigh).link.queue.length < 4 ∧ 4 ≤ (lastByteDue 4 checkHigh).link.queue.length := by
  unfold Settled; decide +kernel

theorem witness_FrameOnTheLineIsReceived :
    (List.replicate 1022 (0 : Byte)).length ≤ 1022 ∧ Settled (lastByteDue 3 0) ∧
      silenced { lastByteDue 3 0 with link := { (lastByteDue 3 0).link with receiver := ⟨.hunt, [], 0⟩ } } = false ∧
      (lastByteDue 3 0).link.queue.length < 4 := by unfold Settled; decide +kernel

/-- A frame at the head of the queue, ready to be taken. -/
def headed (f : Frame) : State := { quiet with link := { quiet.link with queue := [f] } }

/-- The largest PLATE_DATA a frame carries. -/
def largestChunk : Instr := .plateData 1 1 0 (List.replicate 1015 7)

theorem witness_TakeRequestRunsItsRow :
    largestChunk.wellFormed = true ∧
      ∃ f, encodeRequest largestChunk = some f ∧ (headed f).link.queue = f :: [] ∧ (headed f).link.service = [] ∧
        (headed f).link.readySent = true := ⟨by decide +kernel, _, rfl, rfl, rfl, rfl⟩

theorem witness_TakeRequestScreens :
    Settled quiet ∧ quiet.link.queue = [] ∧ Settled (headed ⟨0x04, 1, []⟩) ∧ (0x04 : Byte).toNat ∉ [0x01, 0x02, 0x03] ∧
      (headed ⟨0x01, 0, []⟩).link.queue = ⟨0x01, 0, []⟩ :: [] ∧ (⟨0x01, 1, [0]⟩ : Frame).payload.length ≠ 0 ∧
      (headed ⟨0x01, 1, [0]⟩).link.service = [] := by unfold Settled; decide

/-- Payloads one byte short of what their count field makes, a TT_APPLY that ends within an operation, another scope. -/
theorem test_counted_lengths :
    [(⟨0x20, 1, [1, 2, 3]⟩ : Frame), ⟨0x25, 1, [1, 1, 1, 12]⟩, ⟨0x31, 1, [24, 1]⟩, ⟨0x39, 1, [1, 0, 0, 0, 0, 3, 0]⟩,
        ⟨0x40, 1, [1, 1, 2, 1, 1]⟩, ⟨0x40, 1, [1, 1, 1, 1]⟩, ⟨0x18, 1, []⟩, ⟨0x18, 1, [1, 4, 0]⟩, ⟨0x18, 1, [1, 7, 0, 0]⟩].all
        (fun f => replyOf (after .takeRequest (headed f)) == some (.badLength, [])) = true ∧
      operationsFit 1 [4, 0] = false ∧ operationsFit 1 [7, 0, 0] = false ∧ operationsFit 2 [4, 0, 1, 5, 0, 1] = true ∧
      (⟨0x39, 1, [1, 0, 0, 0, 0, 3, 0]⟩ : Frame).payload.length ≠ 7 + 3 * 256 + 0 ∧
      replyOf (after .takeRequest (headed ⟨0x03, 1, [3]⟩)) = some (.outOfRange, []) := by decide +kernel

/-! ### Witnesses: the clock and the timetable -/

theorem witness_ClockSetRaisesAMinuteEvent :
    (1 : Byte) ≠ 0 ∧ Settled (hallC afterBatch) ∧ 65535 ≤ 65535 ∧ 1439 ≤ 1439 ∧ 59 ≤ 59 ∧ 65535 < 65536 ∧ 1439 < 1440 ∧
      59 < 60 := by unfold Settled; decide

/-- A clock that is SET, at a reading. -/
def reading (day minute second : Nat) (s : State) : State := { s with clock := ⟨true, day, minute, second, some 1000⟩ }

theorem witness_IntervalEndAdvancesTheClock :
    Settled quiet ∧ quiet.clock.intervalEnd = none ∧
      (Settled (reading 2 840 58 (hallC afterBatch)) ∧ (reading 2 840 58 (hallC afterBatch)).clock.intervalEnd = some 1000 ∧
        (reading 2 840 58 (hallC afterBatch)).clock.second < 59) ∧
      (Settled (reading 65535 1439 59 quiet) ∧ (reading 65535 1439 59 quiet).clock.day = 65535 ∧
        (reading 65535 1439 59 quiet).clock.minute = 1439 ∧ (reading 65535 1439 59 quiet).clock.second = 59) ∧
      (Settled (reading 65534 1439 59 quiet) ∧ (reading 65534 1439 59 quiet).clock.second = 59 ∧
        (reading 65534 1439 59 quiet).clock.minute = 1439 ∧ (reading 65534 1439 59 quiet).clock.day < 65535) := by
  unfold Settled; decide

theorem witness_ClockReadReports : (1 : Byte) ≠ 0 ∧ Settled (reading 65535 1439 59 quiet) := by unfold Settled; decide

/-- The table of the batch example, as the laws of the table need it. -/
theorem batch_lawful (s : State) (h : s.layout = (hallC []).layout) (es : List Entry) (he : s.table.entries = es)
    (hs : es = beforeBatch ∨ es = afterBatch) : TimetableLawful s := by
  have listed : ∀ r, isListed s.layout.rooms r = isListed (hallC []).layout.rooms r := by rw [h]; intro r; rfl
  have shared : ∀ r, roomSegments s r = roomSegments (hallC []) r := by unfold roomSegments; rw [h]; intro r; rfl
  rcases hs with rfl | rfl
  · refine ⟨by rw [he]; decide, by rw [he]; decide, by rw [he]; decide, ?_, ?_, ?_, ?_⟩
    · rw [he]; simp only [listed, IntervalLawful]; decide
    · rw [he]; simp [beforeBatch, booked, IsMovedFor]
    · rw [he]; simp [beforeBatch, booked, IsMovedFor]
    · rw [he]
      simp only [OverlapLawful, IsScheduledAs, ShareSegment, shared]
      simp [beforeBatch, booked, roomSegments, hallC, lookup]
  · refine ⟨by rw [he]; decide, by rw [he]; decide, by rw [he]; decide, ?_, ?_, ?_, ?_⟩
    · rw [he]; simp only [listed, IntervalLawful]; decide
    · rw [he]; simp [afterBatch, booked, IsMovedFor, IsScheduledAs]
    · rw [he]; simp [afterBatch, booked, IsMovedFor]
    · rw [he]
      simp only [OverlapLawful, IsScheduledAs, ShareSegment, shared]
      simp [afterBatch, booked, roomSegments, hallC, lookup]

/-- The clashes an operation must avoid, over a table of booked entries, as a list can be searched. -/
theorem clash_free (s : State) (room start stop : Nat) (but : Nat → Bool)
    (h : (s.table.entries.all fun x =>
      match x.what with
      | .session q false => but q || !(sharesSegment s x.room room) || decide (x.stop ≤ start) || decide (stop ≤ x.start)
      | .session _ true => true
      | .tombstone _ _ => true) = true) :
    ∀ x ∈ s.table.entries, ∀ q, IsScheduledAs x q → but q = false → ShareSegment s x.room room →
      x.stop ≤ start ∨ stop ≤ x.start := by
  intro x hx q hq hb hr
  have hall := List.all_eq_true.mp h x hx
  unfold IsScheduledAs at hq
  rw [hq] at hall
  have hs : sharesSegment s x.room room = true := by
    unfold sharesSegment
    rcases hr with hr | ⟨g, h1, h2⟩
    · simp [hr]
    · simp only [Bool.or_eq_true, List.any_eq_true]; exact Or.inr ⟨g, h1, by simpa using h2⟩
  simpa [hb, hs] using hall

/-- Session 404 fits in room definition 31, back to back with the session 401 that stands there. -/
theorem witness_TtApplyAdds :
    (1 : Byte) ≠ 0 ∧ Settled (hallC beforeBatch) ∧ 1 ≤ 65535 ∧ 31 ≤ 96 ∧
      isListed (hallC beforeBatch).layout.rooms 31 = true ∧ 3810 < 3840 ∧ 3840 ≤ 3810 + 1440 ∧ 3840 ≤ 94371839 ∧ 1 ≤ 1 ∧
      (∀ x ∈ (hallC beforeBatch).table.entries, sessionNumber x ≠ some 65535) ∧
      isReady (hallC beforeBatch) 17 = true ∧
      (∀ x ∈ (hallC beforeBatch).table.entries, ∀ q, IsScheduledAs x q → ShareSegment (hallC beforeBatch) x.room 31 →
        x.stop ≤ 3810 ∨ 3840 ≤ x.start) ∧
      (hallC beforeBatch).table.entries.length < 1024 :=
  ⟨by decide, ⟨rfl, by decide⟩, by decide, by decide, by decide, by decide, by decide, by decide, by decide, by decide,
    by decide, fun x hx q hq => clash_free _ _ _ _ (fun _ => false) (by decide) x hx q hq rfl, by decide⟩

/-- Session 402 may end later by 0 minutes: its end is the start of session 401. -/
theorem witness_TtApplyAmends :
    Settled (hallC afterBatch) ∧ TimetableLawful (hallC afterBatch) ∧
      booked 402 32 3720 3780 13 ∈ (hallC afterBatch).table.entries ∧ IsScheduledAs (booked 402 32 3720 3780 13) 402 ∧
      IntervalLawful { booked 402 32 3720 3780 13 with stop := 3780, title := 17, priv := true } ∧
      isReady (hallC afterBatch) 17 = true ∧
      ∀ y ∈ (hallC afterBatch).table.entries, ∀ q, IsScheduledAs y q → q ≠ 402 →
        ShareSegment (hallC afterBatch) y.room 32 → y.stop ≤ 3720 ∨ 3780 ≤ y.start :=
  ⟨⟨rfl, by decide⟩, batch_lawful _ rfl _ rfl (.inr rfl), by decide, rfl, by unfold IntervalLawful; decide, by decide,
    fun y hy q hq hn => clash_free _ _ _ _ (fun n => n == 402) (by decide) y hy q hq (by simpa using hn)⟩

/-- The sixteenth operation fails: session 410 stands already. -/
theorem witness_TtApplyFailsWhole :
    Settled (hallC beforeBatch) ∧
      ((List.replicate 15 (TtOp.amend 410 none none none none none)) ++ TtOp.add 410 30 0 1 0 0 0 :: []).length ≤ 16 ∧
      applyOps (hallC beforeBatch) 1 (List.replicate 15 (.amend 410 none none none none none)) ⟨beforeBatch, 1⟩ [] =
        .done ⟨beforeBatch, 1⟩ [] ∧
      applyOp (hallC beforeBatch) ⟨beforeBatch, 1⟩ (.add 410 30 0 1 0 0 0) = .fails .exists ∧
      ([] : List TtOp).length = 0 ∧ 16 < (List.replicate 17 (TtOp.cancel 1)).length := by unfold Settled; decide +kernel

/-- Chapter 02's batch goes through its two operations, and session numbers are unique before and after. -/
theorem witness_TtApplyFailsWhole_batch :
    applyOps (hallC beforeBatch) 1 [.move 401 32 (some 3780) (some 3810), .add 404 31 3720 3780 17 0 0] ⟨beforeBatch, 1⟩ [] =
        .done ⟨afterBatch, 2⟩ [] ∧
      (beforeBatch.filterMap sessionNumber).Nodup ∧ (afterBatch.filterMap sessionNumber).Nodup := by decide +kernel

/-- The outcomes of operations on a working copy. -/
def outcomes (w : WorkingCopy) (l : List TtOp) : List (Option Status) :=
  l.map fun op => match applyOp (hallC []) w op with
    | .fails status => some status
    | .done _ _ => none

/-- The copy of the batch with session 402 cancelled, and one with 1024 entries. -/
def cancelledCopy : WorkingCopy :=
  ⟨booked 410 30 3840 3900 14 :: { booked 402 32 3720 3780 13 with what := .session 402 true } :: [], 1⟩
def fullCopy : WorkingCopy := ⟨List.replicate 1024 ⟨.tombstone 1 none, 31, 0, 1, 0, 0, false⟩, 1⟩

/-- Each check of each operation fails at the bounds of its fields with the checks before it passed (R29–R35). -/
theorem test_refusals_operations :
    (outcomes ⟨afterBatch, 2⟩
        [.add 0 31 0 1 0 0 0, .add 65536 31 0 1 0 0 0, .add 1 0 0 1 0 0 0, .add 1 97 0 1 0 0 0,
         .add 1 31 94371839 94371840 0 0 0, .add 1 31 1 1 0 0 0, .add 1 31 0 1441 0 0 0, .add 1 31 0 1 0 0 2,
         .amend 65536 none none none none none, .amend 402 (some 94371840) none none none none,
         .amend 402 none none none none (some 2), .amend 402 none (some 3720) none none none,
         .amend 402 (some 2339) none none none none, .move 0 31 none none, .move 402 97 none none, .move 402 32 none none,
         .move 402 31 none (some 3720), .cancel 0, .cancel 65536, .remove 0, .remove 65536, .dismiss 0 3720,
         .dismiss 97 3720, .dismiss 31 94371840]).all (· == some .outOfRange) = true ∧
      outcomes ⟨afterBatch, 2⟩ [.add 402 96 0 1 255 0 1] = [some .exists] ∧
      (outcomes ⟨afterBatch, 2⟩
        [.add 1 96 0 1 0 0 0, .add 1 32 3720 3780 255 0 0, .add 1 32 3720 3780 0 255 0, .amend 1 none none none none none,
         .amend 402 none (some 3800) (some 255) none none, .amend 402 none none none (some 255) none,
         .move 1 31 none none, .move 402 96 (some 3780) (some 3800), .cancel 1, .remove 1, .dismiss 31 3721,
         .dismiss 32 3720]).all (· == some .notFound) = true ∧
      (outcomes cancelledCopy
        [.amend 402 (some 4000) (some 4000) (some 255) none none, .move 402 32 none none, .cancel 402]).all
          (· == some .wrongMode) = true ∧
      (outcomes ⟨afterBatch, 2⟩
        [.add 1 32 3700 3721 0 0 0, .add 1 30 3809 3811 0 0 0, .amend 402 none (some 3781) none none none,
         .move 402 31 (some 3779) none]).all (· == some .overlap) = true ∧
      outcomes fullCopy [.add 1 31 0 1 0 0 0] = [some .full] ∧
      outcomes ⟨afterBatch, 2⟩
        [.add 1 32 3810 3840 0 0 1, .amend 402 none none none none none, .move 402 31 (some 3780) (some 3800), .cancel 402,
         .remove 402, .dismiss 31 3720] = [none, none, none, none, none, none] := by decide +kernel

/-- Chapter 02's MOVE of session 401; with the creation numbers used up it leaves no tombstone. -/
theorem witness_TtApplyMoves :
    Settled (hallC beforeBatch) ∧ TimetableLawful (hallC beforeBatch) ∧
      booked 401 31 3720 3810 12 ∈ (hallC beforeBatch).table.entries ∧ IsScheduledAs (booked 401 31 3720 3810 12) 401 ∧
      isListed (hallC beforeBatch).layout.rooms 32 = true ∧ (booked 401 31 3720 3810 12).room ≠ 32 ∧
      IntervalLawful { booked 401 31 3720 3810 12 with room := 32, start := 3780, stop := 3810 } ∧
      (∀ y ∈ (hallC beforeBatch).table.entries, ∀ q, IsScheduledAs y q → q ≠ 401 →
        ShareSegment (hallC beforeBatch) y.room 32 → y.stop ≤ 3780 ∨ 3810 ≤ y.start) ∧
      ((hallC beforeBatch).table.entries.filter fun y =>
        sessionNumber y != some 401 && !isTombstoneFor 32 401 y).length + 1 < 1024 ∧
      (hallC beforeBatch).table.nextCreation ≤ 4294967295 :=
  ⟨⟨rfl, by decide⟩, batch_lawful _ rfl _ rfl (.inl rfl), by decide, rfl, by decide, by decide,
    by unfold IntervalLawful; decide,
    fun y hy q hq hn => clash_free _ _ _ _ (fun n => n == 401) (by decide) y hy q hq (by simpa using hn), by decide,
    by decide⟩

/-- The creation numbers used up. -/
def numbersUsedUp : State :=
  { hallC beforeBatch with table := { (hallC beforeBatch).table with nextCreation := 4294967296 } }

theorem witness_TtApplyMoves_without_tombstone :
    Settled numbersUsedUp ∧ TimetableLawful numbersUsedUp ∧ 4294967295 < numbersUsedUp.table.nextCreation :=
  ⟨⟨rfl, by decide⟩, batch_lawful _ rfl _ rfl (.inl rfl), by decide⟩

theorem witness_TtApplyCancelsRemovesDismisses :
    Settled (hallC afterBatch) ∧ TimetableLawful (hallC afterBatch) ∧
      booked 401 32 3780 3810 12 ∈ (hallC afterBatch).table.entries ∧ IsScheduledAs (booked 401 32 3780 3810 12) 401 ∧
      sessionNumber (booked 401 32 3780 3810 12) = some 401 ∧
      ∃ x ∈ (hallC afterBatch).table.entries, isTombstoneAt 31 3720 x = true :=
  ⟨⟨rfl, by decide⟩, batch_lawful _ rfl _ rfl (.inr rfl), by decide, rfl, rfl, by decide⟩

/-- D held to A at A's boundary. -/
theorem witness_RoomTimingReplacesTheRecord :
    Settled (hallC afterBatch) ∧ 240 ≤ 240 ∧ 60 ≤ 60 ∧ 30 ≤ 30 ∧ isListed (hallC afterBatch).layout.rooms 30 = true ∧
      1 ≤ 30 ∧ 30 ≤ 96 ∧ lookup (hallC afterBatch).layout.rooms 30 = some ⟨3, [21, 22, 23], 61⟩ ∧
      signNames (fun q => (roomSegments (hallC afterBatch) 30).contains q) ⟨.door 23 true, none, none, .empty .blank, []⟩ =
        true := by unfold Settled; decide

/-- Hall C's formation lacks the room definition 31 whose session is UNDERWAY, LAYOUT being ARMED. -/
def unheard : State :=
  let s := atMinute 840 (hallC afterBatch)
  { s with
    layout := { s.layout with halls := [(3, ⟨[21, 22, 23], 60, [⟨[21, 22], none⟩, ⟨[23], none⟩], false⟩)] }
    health := { s.health with layoutClass := .armed } }

/-- The mismatch value rises with the record: one HEALTH notice behind the reply, held, the hall's input true (R123, R192). -/
theorem test_mismatch_heard :
    let t := after (.roomTiming 1 31 60 15 5) unheard
    risingKeys unheard.layout.halls = true ∧ (unheard.layout.halls.all fun e => within Config.halls e.1) = true ∧
      (t.link.service.map fun r => r.after) = [[.health (.hall 3) .layoutMismatch true true 0]] ∧
      t.health.held = [⟨.hall 3, .layoutMismatch⟩] ∧ t.sense.mismatch = [3] ∧ t.resolver.mismatch = [3] := by decide +kernel

theorem witness_ReadsChangeNothing :
    Settled (hallC afterBatch) ∧ isListed (hallC afterBatch).layout.rooms 31 = true ∧
      lookup (hallC afterBatch).layout.halls 3 = some ⟨[21, 22, 23], 60, [⟨[21], some 31⟩, ⟨[22, 23], some 32⟩], false⟩ ∧
      objectOf 1 4 30 = some (.panel 4 30) ∧ objectOf 1 4 31 = none ∧ 2 * 256 + 143 ≤ 655 ∧ 655 < 2 * 256 + 144 := by
  unfold Settled; decide

/-! ### Witnesses: layout and sense lines -/

/-- Hall 1 with segments 1 and 2 and the given walls and lines, plate 12 READY. -/
def pairHall (walls : Table Wall) (lines : Table Line) : State :=
  { hallC [] with
    layout := ⟨[(1, ⟨[1, 2], 12, [⟨[1], none⟩, ⟨[2], none⟩], false⟩)], walls, [], 8⟩
    sense := ⟨lines, [], [], []⟩ }

/-- A SENSED wall between segments 1 and 2 with its hold running to OPEN. -/
def openingWall : Wall := ⟨1, 1, 2, .sensed 1 24 .opened (some ⟨true, 8, 9000⟩), .closed⟩

theorem witness_HallDefineDefines :
    Settled (hallC afterBatch) ∧ 1 ≤ [1, 6, 5, 4, 3, 40].length ∧ [1, 6, 5, 4, 3, 40].length ≤ 6 ∧
      [1, 6, 5, 4, 3, 40].Nodup ∧ (∀ g ∈ [1, 6, 5, 4, 3, 40], 1 ≤ g ∧ g ≤ 40) ∧ isReady (hallC afterBatch) 12 = true ∧
      lookup (hallC afterBatch).layout.halls 12 = none ∧
      (∀ g ∈ [1, 6, 5, 4, 3, 40], hallOfSegment (hallC afterBatch) g = none) ∧
      sortNumbers [23, 21, 22] = [21, 22, 23] ∧ (∀ g ∈ [23, 21, 22], hallOfSegment (hallC afterBatch) g = some 3) ∧
      (lookup (hallC afterBatch).layout.halls 3).isSome = true := by unfold Settled; decide

/-- Hall 1, unreferenced, may take another set: segment 1 is its own, segment 40 no hall's. -/
theorem witness_HallDefineDefines_another_set :
    Settled (pairHall [] []) ∧
      lookup (pairHall [] []).layout.halls 1 = some ⟨[1, 2], 12, [⟨[1], none⟩, ⟨[2], none⟩], false⟩ ∧
      [1, 2] ≠ sortNumbers [40, 1] ∧ isReferenced (pairHall [] []) 1 = false ∧ hallOfSegment (pairHall [] []) 40 = none ∧
      hallOfSegment (pairHall [] []) 1 = some 1 := by unfold Settled; decide

theorem witness_LayoutRemovals :
    Settled (pairHall [(32, openingWall)] []) ∧
      lookup (pairHall [(32, openingWall)] []).layout.walls 32 = some openingWall ∧
      (∀ e ∈ (pairHall [(32, openingWall)] []).layout.rooms,
        e.2.hall = openingWall.hall → needsWall (pairHall [(32, openingWall)] []) 32 e.2 = false) ∧
      (lookup (pairHall [] []).layout.halls 1).isSome = true ∧ isReferenced (pairHall [] []) 1 = false ∧
      lookup (hallC []).layout.rooms 30 = some ⟨3, [21, 22, 23], 61⟩ ∧ (∀ e ∈ (hallC []).table.entries, e.room ≠ 30) := by
  unfold Settled; decide

theorem witness_WallDefineDefines :
    Settled (pairHall [] []) ∧ lookup (pairHall [] []).layout.walls 32 = none ∧
      hallOfSegment (pairHall [] []) 1 = some 1 ∧ hallOfSegment (pairHall [] []) 2 = some 1 ∧
      joined (pairHall [] []) (fun _ _ => true) 1 2 = false ∧ (lineOf (pairHall [] []) 1).mode = .off ∧
      (lineOf (pairHall [] []) 24).mode = .off ∧ (1 : Nat) ≠ 24 := by unfold Settled; decide

theorem witness_WallsSettle :
    Settled (hallC []) ∧ lookup (hallC []).layout.walls 7 = some ⟨3, 21, 22, .manual, .closed⟩ ∧
      (.closed : WallState) ≠ .opened ∧ Settled (pairHall [(32, openingWall)] []) ∧
      lookup (pairHall [(32, openingWall)] []).layout.walls 32 = some openingWall ∧
      openingWall.source = .sensed 1 24 .opened (some ⟨true, 8, 9000⟩) := by unfold Settled; decide

theorem witness_RoomDefineDefines :
    Settled (pairHall [(32, openingWall)] []) ∧ isReady (pairHall [(32, openingWall)] []) 12 = true ∧
      (lookup (pairHall [(32, openingWall)] []).layout.halls 1).isSome = true ∧
      lookup (pairHall [(32, openingWall)] []).layout.rooms 96 = none ∧
      connected (pairHall [(32, openingWall)] []) (fun _ _ => true) (sortNumbers [2, 1]) = true ∧
      (∀ e ∈ (pairHall [(32, openingWall)] []).layout.rooms, e.2.segments ≠ sortNumbers [2, 1]) := by
  unfold Settled; decide

/-- Room definition 32 of hall C, which no entry names, may be made anew of segments 21 and 22. -/
theorem witness_RoomDefineDefines_replaced :
    Settled (hallC []) ∧ isReady (hallC []) 12 = true ∧ isListed (hallC []).layout.rooms 32 = true ∧
      (∀ e ∈ (hallC []).table.entries, e.room ≠ 32) ∧
      connected (hallC []) (fun _ _ => true) (sortNumbers [22, 21]) = true ∧
      (∀ e ∈ (hallC []).layout.rooms, e.1 ≠ 32 → e.2.segments ≠ sortNumbers [22, 21]) := by unfold Settled; decide

theorem witness_FormationComponents :
    [31, 32, 33, 34].Nodup ∧
      (⟨[31, 32], some 54⟩ : Component) ∈ formationOf (hall5 .opened .closed) [31, 32, 33, 34] ∧
      risingKeys (hall5 .opened .closed).layout.rooms = true := by decide

/-- Room definition 54 alone has the segments 31 and 32, which are one component. -/
theorem witness_FormationComponents_matched :
    lookup (hall5 .opened .closed).layout.rooms 54 = some ⟨5, [31, 32], 45⟩ ∧
      ∀ q y, lookup (hall5 .opened .closed).layout.rooms q = some y → y.segments = [31, 32] → q = 54 := by
  refine ⟨by decide, fun q y h hs => ?_⟩
  simp only [hall5, lookup] at h
  repeat' split at h
  all_goals first
    | (cases h; simp_all)
    | cases h

/-- Hall C meets the laws of the layout. -/
theorem hallC_layout_lawful : LayoutLawful (hallC afterBatch) := by
  refine ⟨by decide, by decide, by decide, ?_, ?_, ?_, ?_, ?_, ?_, ?_⟩
  · unfold SegmentsLawful; decide
  · decide
  · decide
  · unfold SegmentsLawful; decide
  · decide
  · intro r
    simp only [hallC, isListed, lookup]
    repeat' split
    all_goals simp_all
  · intro r t h
    simp only [hallC, lookup] at h
    repeat' split at h
    all_goals first
      | (cases h; decide)
      | cases h

theorem witness_LineLevelMovesTheCandidate :
    Settled doorContact ∧ 1 ≤ 7 ∧ 7 ≤ 24 ∧ (lineOf doorContact 7).input = .low ∧ (lineOf doorContact 24).input ≠ .low := by
  unfold Settled; decide

/-- The closed line of a moving wall, its level about to be taken. -/
def arriving : State :=
  pairHall [(32, ⟨1, 1, 2, .sensed 1 24 .moving none, .unknown⟩)]
    [(1, ⟨.low, .wall ⟨none, some (.low, 50)⟩ 32⟩), (24, ⟨.high, .wall ⟨some .high, none⟩ 32⟩)]

theorem witness_FilterExpiryTakesTheLevel :
    Settled doorContact ∧
      (lineOf doorContact 7).mode = .contact ⟨some .high, some (.low, 1080)⟩ .low .rise 3 false false ∧ Settled arriving ∧
      (lineOf arriving 1).mode = .wall ⟨none, some (.low, 50)⟩ 32 ∧
      lookup arriving.layout.walls 32 = some ⟨1, 1, 2, .sensed 1 24 .moving none, .unknown⟩ ∧
      doorContact.resolver.doors = doorContact.sense.doors := by unfold Settled; decide

theorem witness_SenseConfigSetsTheMode :
    Settled doorContact ∧ (∀ f w, (lineOf doorContact 24).mode ≠ .wall f w) ∧
      (∀ f w, (lineOf doorContact 7).mode ≠ .wall f w) ∧ boundElsewhere doorContact 24 12 = false ∧
      (∀ f al es h act pf, (lineOf doorContact 24).mode ≠ .contact f al es h act pf) ∧
      (lineOf doorContact 7).mode = .contact ⟨some .high, some (.low, 1080)⟩ .low .rise 3 false false ∧
      boundElsewhere doorContact 7 3 = false := by
  have off : (lineOf doorContact 24).mode = .off := by decide
  have on : (lineOf doorContact 7).mode = .contact ⟨some .high, some (.low, 1080)⟩ .low .rise 3 false false := by decide
  exact ⟨⟨rfl, by decide⟩, by simp [off], by simp [on], by decide, by simp [off], on, by decide⟩

theorem witness_SenseAckClears :
    Settled doorContact ∧ 1 ≤ (List.replicate 24 24).length ∧ (List.replicate 24 24).length ≤ 24 ∧
      (∀ l ∈ List.replicate 24 24, 1 ≤ l ∧ l ≤ 24) ∧ ([] : List Nat).length = 0 ∧ 24 < (List.replicate 25 1).length ∧
      (∃ l ∈ [25], l = 0 ∨ 24 < l) := by unfold Settled; decide

/-- Line 1 a lamp of hall 3, lit while the hall's wall 8 moves. -/
def lampLit : State :=
  { hallC [] with
    layout :=
      { (hallC []).layout with
        halls := [(3, ⟨[21, 22, 23], 60, [⟨[21], some 31⟩, ⟨[22], none⟩, ⟨[23], none⟩], true⟩)]
        walls := [(7, ⟨3, 21, 22, .manual, .closed⟩), (8, ⟨3, 22, 23, .sensed 2 24 .moving none, .unknown⟩)] }
    sense :=
      ⟨[(1, ⟨.high, .lamp 3 true⟩), (2, ⟨.high, .wall ⟨some .high, none⟩ 8⟩), (24, ⟨.high, .wall ⟨some .high, none⟩ 8⟩)],
        [], [3], []⟩ }

theorem lampLit_lawful : LampsLawful lampLit := by
  refine ⟨?_, fun h => by simp [lampLit, hallC, isLive, quiet, State.reset, Health.reset],
    fun h => by simp [lampLit, hallC, isLive, quiet, State.reset, Health.reset],
    fun h => by simp [lampLit, hallC, quiet, State.reset], by decide, by decide, by decide, by decide, fun h => ?_⟩
  · intro l h lit hm
    simp only [lineOf, lookupD, lampLit, lookup] at hm
    by_cases h1 : 1 = l
    · simp [h1] at hm; simp [lampLit, ← hm.1, ← hm.2]
    · repeat' split at hm
      all_goals simp_all [Line.reset]
  · simp only [lampLit, lookup]
    by_cases h3 : 3 = h
    · subst h3; rfl
    · simp [h3, Ne.symm h3]

/-! ### Witnesses: plates -/

/-- The store with one plate, 255, on the last page, and a watch for the whole pool. -/
def store (p : Plate) (freeCount : Nat) : State :=
  { quiet with
    plates := { quiet.plates with plates := [(255, p)], freeCount := freeCount, watch := some 2048 } }

/-- A FILLING plate of two bytes, one of them received. -/
def halfFilled : Plate := ⟨.filling, 2, [2048], 1, 0, 0, 0, 0, 0⟩

/-- A plate of one byte, wholly received, its declared digest that of the byte 0, in a state. -/
def wholePlate (state : PlateState) (inFlight : Nat) : Plate := ⟨state, 1, [2048], 1, digest [0], 0, 0, 0, inFlight⟩

theorem store_lawful (p : Plate) (h : p.pages = [2048]) (h1 : within Config.plateSize p.size = true)
    (h2 : pagesFor p.size = 1) (h3 : p.received ≤ p.size) (h4 : p.state ≠ .filling → p.received = p.size) :
    PoolLawful (store p 2047) := by
  have held : heldPages (store p 2047) = [2048] := by simp [heldPages, store, h]
  refine ⟨rfl, rfl, by rw [held]; rfl, by rw [held]; decide, by rw [held]; decide, ?_⟩
  intro e he
  simp only [store, List.mem_singleton] at he
  subst he
  exact ⟨rfl, h1, by simp [h, h2], h3, h4⟩

theorem halfFilled_lawful : PoolLawful (store halfFilled 2047) :=
  store_lawful _ rfl (by decide) (by decide) (by decide) (by decide)

theorem witness_PlateOpenTakesPages :
    Settled (store halfFilled 2047) ∧ PoolLawful (store halfFilled 2047) ∧ plateAt (store halfFilled 2047) 1 = none ∧
      (65536 + 255) / 256 ≤ (store halfFilled 2047).plates.freeCount ∧
      (store halfFilled 255).plates.freeCount < (65536 + 255) / 256 ∧
      plateAt (store halfFilled 2047) 255 = some halfFilled :=
  ⟨⟨rfl, by decide⟩, halfFilled_lawful, by decide, by decide, by decide, by decide⟩

theorem witness_PlateDataWritesTheContent :
    Settled (store halfFilled 2047) ∧ PoolLawful (store halfFilled 2047) ∧
      plateAt (store halfFilled 2047) 255 = some halfFilled ∧ halfFilled.state = .filling ∧ 1 ≤ [(7 : Byte)].length ∧
      [(7 : Byte)].length ≤ 768 ∧ halfFilled.received + [(7 : Byte)].length ≤ halfFilled.size :=
  ⟨⟨rfl, by decide⟩, halfFilled_lawful, by decide, by decide, by decide, by decide, by decide⟩

theorem witness_PlatesCloseAndGo :
    Settled (store (wholePlate .filling 0) 2047) ∧
      plateAt (store (wholePlate .filling 0) 2047) 255 = some (wholePlate .filling 0) ∧
      (wholePlate .filling 0).received = (wholePlate .filling 0).size ∧
      digest (content (store (wholePlate .filling 0) 2047) (wholePlate .filling 0)) = (wholePlate .filling 0).digest ∧
      digest (content (store { wholePlate .filling 0 with digest := 0 } 2047) { wholePlate .filling 0 with digest := 0 }) ≠ 0 ∧
      (wholePlate .ready 0).inFlight = 0 ∧ (wholePlate .ready 1).inFlight ≠ 0 ∧ references (wholePlate .ready 1) = 0 ∧
      plateAt (store (wholePlate .doomed 1) 2047) 255 = some (wholePlate .doomed 1) ∧
      references { wholePlate .ready 0 with settingsRefs := 1 } ≠ 0 := by unfold Settled; decide +kernel

theorem witness_WatchSettleAndSettings :
    Settled (hallC []) ∧ 2044 ≤ (hallC []).plates.freeCount ∧ (hallC []).plates.freeCount < 2048 ∧
      (∀ id ∈ settingsList ⟨12, 0, 12, 17, 0, 0, 14⟩, id = 0 ∨ isReady (hallC []) id = true) ∧
      (∃ id ∈ settingsList ⟨12, 0, 12, 17, 0, 0, 255⟩, id ≠ 0 ∧ isReady (hallC []) id = false) ∧
      plateAt (hallC []) 12 = some (readyPlate 1) ∧
      (readyPlate 1).settingsRefs = settingsRefsOf (hallC []).plates.settings 12 := by unfold Settled; decide

/-- Plate 255 READY and named by two settings. -/
def named : State :=
  let s := store { wholePlate .ready 0 with settingsRefs := 2 } 2047
  { s with plates := { s.plates with settings := ⟨255, 0, 255, 0, 0, 0, 0⟩ } }

theorem named_lawful : ReferencesLawful named := by
  refine ⟨rfl, rfl, rfl, fun id hid => ⟨fun p hp => ?_, fun hr => ?_⟩⟩
  · simp only [plateAt, named, store, lookup] at hp
    split at hp
    · next h => cases hp; subst h; decide
    · cases hp
  · by_cases h : id = 255
    · subst h; exact absurd hr (by decide)
    · have h0 : ¬ (0 = id) := fun x => hid x.symm
      have h1 : ¬ (255 = id) := fun x => h x.symm
      refine ⟨rfl, rfl, ?_⟩
      simp [settingsRefsOf, settingsList, named, store, h0, h1]

/-! ### Witnesses: signs, panels and trunks -/

/-- The composition the tests' sign wants, and another one. -/
def wanted : Composition := { Composition.empty .nameOnly with layers := ⟨12, 0, 0, 0, 0, 0⟩ }

/-- A panel record with everything quiet. -/
def calm : Panel := ⟨.present, none, none, .none, 8, 0, List.replicate 8 ⟨.free, 0⟩, none⟩

/-- Hall C with a door sign at position 1 of trunk 1, its panel record and its trunk. -/
def signed (p : Panel) (x : Trunk) : State :=
  { hallC afterBatch with
    resolver := ⟨[(33, ⟨.door 21 true, some 30000, none, wanted, []⟩)], [], []⟩
    dispatcher := ⟨[(33, p)], 1⟩
    trunks := [(1, x)] }

/-- A RUNNING trunk with one panel and the given exchange. -/
def running (e : Option Exchange) : Trunk := { Trunk.reset with state := .running, exchange := e, chainCount := 1 }

theorem witness_SignsComeAndGo :
    Settled (signed calm (running none)) ∧ FormGives (.door 23 1) (.door 23 true) ∧
      FormGives (.corridor [(23, 7), (21, 0)]) (.corridor [(23, 7), (21, 0)]) ∧
      (∀ g ∈ roleSegments (.door 23 true), (hallOfSegment (signed calm (running none)) g).isSome = true) ∧
      signAt (signed calm (running none)) (32 * 4 + 30) = none ∧
      signAt (signed calm (running none)) (32 * 1 + 1) = some ⟨.door 21 true, some 30000, none, wanted, []⟩ ∧
      panelAt (signed calm (running none)) (32 * 1 + 1) = some calm ∧ calm.link = .present ∧
      compositionOf (signed calm (running none)) ⟨.door 21 true, none, none, wanted, []⟩ ≠ wanted :=
  ⟨⟨rfl, by decide⟩, .inl ⟨23, 1, rfl, by decide, by decide, by decide, rfl⟩,
    .inr ⟨_, rfl, by decide, by decide, by decide, by decide, rfl⟩, by decide, by decide, by decide, by decide, by decide, by decide +kernel⟩

/-- A door sign of hall 3 stands where a wall of the hall opens: the formation differs, and the sign is resolved (R60, R102). -/
theorem test_formation_taken :
    let s := signed calm (running (some .call))
    let u := after (.wallSet 1 7 1) s
    whereFormationDiffers 3 s u = [3] ∧
      signNames (fun g => (hallOfSegment u g).any fun h => [3].contains h) ⟨.door 21 true, some 30000, none, wanted, []⟩ =
        true ∧
      (signAt u 33).map (·.desired) = some (doorComposition u 21 true) ∧ doorComposition u 21 true ≠ wanted := by
  decide +kernel

/-- The door of hall 3 closes: its door sign is resolved (R71, R102). -/
theorem test_doors_taken :
    let s := { signed calm (running (some .call)) with sense := doorContact.sense, now := 1030 }
    let u := after (.filterExpiry 7) s
    (s.sense.doors.contains 3, u.sense.doors.contains 3) = (false, true) ∧
      isDoorOf u 3 ⟨.door 21 true, some 30000, none, wanted, []⟩ = true ∧
      (signAt u 33).map (·.desired) = some (doorComposition u 21 true) := by decide +kernel

theorem witness_PhaseTable : (⟨60, 60, 0⟩ : Timing).d ≤ (⟨60, 60, 0⟩ : Timing).a ∧ 0 < 1 := by decide

/-- Hall C at a minute of day 2, walls as given, its entries those of the batch example. -/
def atHallC (minute : Nat) : State := atMinute minute (hallC afterBatch)

/-- Hall C with its formation matching no room definition, session 404 UNDERWAY. -/
def unformed : State :=
  { atHallC 840 with
    layout := { (hallC []).layout with halls := [(3, ⟨[21, 22, 23], 60, [⟨[21, 22], none⟩, ⟨[23], none⟩], false⟩)] } }

theorem witness_PhaseTable_doors :
    (∀ e ∈ (atHallC 820).table.entries, e.stop ≤ 94371839) ∧ (hallC afterBatch).clock.isSet = false ∧
      (atHallC 820).clock.isSet = true ∧ primaryOf (atHallC 1439) 21 = none ∧
      (primaryOf (atHallC 902) 22 = some (booked 401 32 3780 3810 12) ∧
        isScheduled (booked 401 32 3780 3810 12) = true ∧ isFormed (atHallC 902) 32 = true) ∧
      (primaryOf unformed 21 = some (booked 404 31 3720 3780 17) ∧ isFormed unformed 31 = false ∧
        phaseOf unformed (booked 404 31 3720 3780 17) = .underway) ∧
      (primaryOf (atHallC 820) 21 = some ⟨.tombstone 1 (some 401), 31, 3720, 3810, 12, 0, false⟩ ∧
        booked 401 32 3780 3810 12 ∈ (atHallC 820).table.entries ∧
        ∀ x ∈ (atHallC 820).table.entries, sessionNumber x = some 401 → x = booked 401 32 3780 3810 12) ∧
      primaryOf (after (.ttApply 1 [.cancel 401]) (atHallC 902)) 22 =
        some { booked 401 32 3780 3810 12 with what := .session 401 true } := by decide +kernel

theorem witness_PhaseTable_names_and_corridors :
    (hallOfSegment (hallC []) 22 = some 3 ∧
        (⟨[22, 23], some 32⟩ : Component) ∈ (hallC []).layout.halls.flatMap (·.2.formation) ∧
        ∀ d ∈ (hallC []).layout.halls.flatMap (·.2.formation), 22 ∈ d.segments → d = ⟨[22, 23], some 32⟩) ∧
      (hallOfSegment unformed 22 = some 3 ∧ (⟨[21, 22], none⟩ : Component) ∈ unformed.layout.halls.flatMap (·.2.formation)) ∧
      risingKeys (atHallC 840).layout.rooms = true ∧ (∀ e ∈ (atHallC 840).layout.rooms, rising e.2.segments = true) ∧
      ([(22, 7), (21, 0)].map fun r : Nat × Nat => r.1).Nodup ∧
      (corridorComposition (atHallC 840) [(22, 7), (21, 0)]).lines.map (·.arrow) = [0, 7] ∧
      corridorComposition (atHallC 840) [(40, 7)] = .empty .blank ∧
      (booked 1 30 0 1 12).priv = false ∧ (booked 1 30 0 1 0).title = 0 ∧
      mismatchNow unformed 3 = true ∧ mismatchNow (atHallC 840) 3 = false := by decide +kernel

theorem witness_CreditAccrues :
    Settled (signed { calm with credit := 8 } (running none)) ∧
      risingKeys (signed calm (running none)).dispatcher.panels = true := by unfold Settled; decide

/-- No query is due for a position, read from the records. -/
def quietPositions (s : State) (n : Nat) : Bool :=
  (upTo 30).all fun p => lookup (trunkOf s n).recovery p != some .due &&
    match panelAt s (32 * n + p) with
    | some x => x.link == .blocked || x.query == .none
    | none => true

theorem no_query_due (s : State) (n : Nat) (h : quietPositions s n = true) :
    ∀ p, 1 ≤ p → p ≤ 30 → ¬ QueryIsDue s n p := by
  intro p h1 h30 hq
  have hp := List.all_eq_true.mp h p (by simp only [upTo, List.mem_map, List.mem_range]; exact ⟨p - 1, by omega, by omega⟩)
  rcases hq with hr | ⟨x, hx, hl, hn⟩
  · simp [hr] at hp
  · simp [hx, hl, hn] at hp

/-- The sign's panel queued with a credit, and what its mirror holds of plate 12, the one plate wanted. -/
def askedFor (credit : Int) (slot : Slot) : State :=
  signed { calm with credit := credit, queue := some ⟨true, 0, 0⟩, mirror := slot :: List.replicate 7 ⟨.free, 0⟩ }
    (running none)

/-- A show at the lowest credit an URGENT record needs, one credit less, and a feed. -/
theorem witness_CreditAccrues_steps :
    scanQueue (askedFor (-1) ⟨.loaded 12 1, 0⟩) 1 =
        some (33, { calm with credit := -1, queue := some ⟨true, 0, 0⟩, mirror := ⟨.loaded 12 1, 0⟩ :: List.replicate 7 ⟨.free, 0⟩ },
          true, ⟨1, .showing wanted 3, false, false⟩) ∧
      scanQueue (askedFor (-2) ⟨.loaded 12 1, 0⟩) 1 = none ∧
      (scanQueue (askedFor (-2) ⟨.filling 14 0, 0⟩) 1).map (·.2.2.2) = some ⟨1, .feed 2 12 1 1, false, false⟩ ∧
      plateAt (askedFor (-2) ⟨.filling 14 0, 0⟩) 12 = some (readyPlate 1) ∧
      Settled (askedFor (-2) ⟨.loaded 12 1, 0⟩) ∧ (trunkOf (askedFor (-2) ⟨.loaded 12 1, 0⟩) 1).state = .running ∧
      ∀ p, 1 ≤ p → p ≤ 30 → ¬ QueryIsDue (askedFor (-2) ⟨.loaded 12 1, 0⟩) 1 p :=
  ⟨by decide, by decide, by decide, by decide, ⟨rfl, by decide⟩, by decide, no_query_due _ _ (by decide)⟩

theorem witness_TrunkRequests :
    Settled quiet ∧ (trunkOf quiet 4).state = .off ∧ isLive quiet (.trunk 4) .lineShort = false ∧
      isLive { quiet with health := { quiet.health with live := [⟨.trunk 4, .lineShort⟩] } } (.trunk 4) .lineShort = true ∧
      Settled (signed calm (running (some .call))) ∧ (trunkOf (signed calm (running (some .call))) 1).state = .running ∧
      (trunkOf (signed calm (running (some .call))) 1).exchange ≠ none ∧
      (trunkOf (signed calm (running (some .call))) 1).stopPending = false ∧ Settled (signed calm (running none)) ∧
      (trunkOf (signed calm (running none)) 1).exchange = none := by unfold Settled; decide

theorem witness_TrunkTimersAndLines :
    Settled (signed calm { running none with probeInterval := some 10000, recovery := [(30, .running 30000)] }) ∧
      (let x := trunkOf (signed calm { running none with probeInterval := some 10000, recovery := [(30, .running 30000)] }) 1
       x.probeInterval = some 10000 ∧ x.exchange = none ∧ x.stopPending = false ∧ x.state = .running ∧
         lookup x.recovery 30 = some (.running 30000) ∧ x.probeDue = false ∧ anyAttention x.attention = false) ∧
      Settled (signed { calm with awaiting := some ⟨wanted, 0, some 8000⟩ }
        { running (some .call) with probeInterval := some 10000, recovery := [(30, .running 30000)] }) ∧
      panelAt (signed { calm with awaiting := some ⟨wanted, 0, some 8000⟩ } (running (some .call))) (32 * 1 + 1) =
        some { calm with awaiting := some ⟨wanted, 0, some 8000⟩ } := by unfold Settled; decide

/-- The first block of a run of a one-byte plate, as requested (R167, R205), up to the check. -/
theorem test_load_request :
    let r : LoadRun := ⟨30, 8, 12, 1, 1, 1, 1, 0⟩
    plateAt (hallC []) r.plate = some (readyPlate 1) ∧
      ((requestFrame (hallC []) (.load r)).map fun b => b.take 13) =
        some [30, 3, 0, 9, 8, 12, 0, 0, 0, 1, 0, 1, 0] ∧
      ((requestFrame (hallC []) .call).map fun b => b.take 4) = some [0, 5, 0, 0] := by decide

/-- The trunk as each branch of the decision finds it, between two exchanges. -/
theorem witness_TrunkTimersAndLines_decides :
    let idle := fun (p : Panel) (x : Trunk) => trunkOf (signed p x) 1
    (idle calm { running none with stopPending := true }).stopPending = true ∧
      (idle { calm with query := .adopt } { running none with state := .counting }).state = .counting ∧
      panelAt (signed { calm with query := .adopt } { running none with state := .counting }) (32 * 1 + 1) =
        some { calm with query := .adopt } ∧
      (idle { calm with query := .adopt } { running none with state := .counting }).walkPosition < 1 ∧
      1 ≤ (idle calm { running none with state := .counting }).chainCount ∧
      (idle calm { running none with state := .counting, walkPosition := 1 }).walkPosition = 1 ∧
      (idle calm { running none with rewalkPending := true }).rewalkPending = true ∧
      (idle calm { running none with probeDue := true }).probeDue = true ∧
      anyAttention (idle calm { running none with attention := ⟨false, false, false, true⟩ }).attention = true ∧
      (∀ p, 1 ≤ p → p ≤ 30 → ¬ QueryIsDue (askedFor (-1) ⟨.loaded 12 1, 0⟩) 1 p) ∧
      QueryIsDue (signed calm { running none with recovery := [(30, .due)] }) 1 30 ∧
      (idle calm { running none with state := .faulted, probeDue := true }).exchange = none ∧
      (trunkOf quiet 4).state = .off ∧ (trunkOf quiet 4).exchange = none :=
  ⟨by decide, by decide, by decide, by decide, by decide, by decide, by decide, by decide, by decide,
    no_query_due _ _ (by decide), .inl (by decide), by decide, by decide, by decide⟩

/-- A trunk told to decide: busy, idle and RUNNING, idle and FAULTED; and one that nothing told. -/
theorem witness_TrunkTimersAndLines_told :
    let told := fun (x : Trunk) => trunkOf (signed calm { x with wake := true }) 1
    (trunkOf (signed calm (running none)) 1).wake = false ∧
      ((told (running (some .call))).wake = true ∧ (told (running (some .call))).exchange ≠ none) ∧
      ((told (running none)).exchange = none ∧ (told (running none)).stopPending = false ∧
        (told (running none)).state = .running) ∧
      (told { running none with state := .faulted }).state = .faulted := by decide

/-- A trunk with neither exchange nor step is lawful. -/
theorem idle_trunk_lawful {x : Trunk} (he : x.exchange = none) (hs : x.step = none) (hc : x.chainCount ≤ 30) :
    TrunkLawful x := by
  refine ⟨fun _ => ⟨he, hs⟩, ?_, ?_, hc, ?_, ?_⟩ <;> simp [he, hs]

/-- A RUNNING trunk with an exchange in flight is lawful where its positions and its count lie in range. -/
theorem busy_trunk_lawful {x : Trunk} {e : Exchange} (he : x.exchange = some e) (ho : x.state = .running)
    (hc : x.chainCount ≤ 30) (hs : ∀ d, x.step = some d → d.position < 32 ∧ ∀ p c, e = .showing p c → d.position = p)
    (hf : ∀ found, e = .count found → found.length < 30) (hp : ∀ p, exchangePosition e = some p → p < 32) :
    TrunkLawful x := by
  refine ⟨fun h => ?_, fun d hd => (hs d hd).1, fun p c d h hd => (hs d hd).2 p c ?_, hc, fun f h => hf f ?_, fun e' p h hp' => ?_⟩
  · rw [ho] at h; cases h
  · rw [he] at h; exact Option.some.inj h
  · rw [he] at h; exact Option.some.inj h
  · rw [he] at h; cases h; exact hp p hp'

/-- A line test ends while a stop waits, a QUERY of the last position while a re-walk does. -/
theorem witness_PendingStopsAndWalksTakeEffect :
    Settled (signed calm { running (some .probe) with stopPending := true }) ∧
      (trunkOf (signed calm { running (some .probe) with stopPending := true }) 1).exchange = some .probe ∧
      ((∃ r, ExchangeEnd.probe (.openAt 30) = .probe r) ↔ Exchange.probe = .probe) ∧
      ((∃ r, ExchangeEnd.timeout = .probe r) ↔ Exchange.query 30 = .probe) ∧
      Settled (signed calm { running (some (.query 30)) with rewalkPending := true }) ∧
      (trunkOf (signed calm { running (some (.query 30)) with rewalkPending := true }) 1).rewalkPending = true ∧
      (trunkOf (signed calm { running (some (.query 30)) with rewalkPending := true }) 1).exchange = some (.query 30) ∧
      TrunkLawful { running (some .probe) with stopPending := true } ∧
      TrunkLawful { running (some (.query 30)) with rewalkPending := true } := by
  refine ⟨⟨rfl, by decide⟩, by decide, ⟨fun _ => rfl, fun _ => ⟨_, rfl⟩⟩, ⟨fun ⟨_, h⟩ => (by cases h), fun h => (by cases h)⟩,
    ⟨rfl, by decide⟩, by decide, by decide, ?_, ?_⟩
  · exact busy_trunk_lawful rfl rfl (by decide) (by simp [running, Trunk.reset]) (by simp) (by simp [exchangePosition])
  · exact busy_trunk_lawful rfl rfl (by decide) (by simp [running, Trunk.reset]) (by simp) (by simp [exchangePosition])

theorem witness_CountAndQueryReplies :
    Settled (signed calm (running (some (.count (List.replicate 28 ⟨1, 8, 1⟩))))) ∧
      (List.replicate 28 (⟨1, 8, 1⟩ : ChainEntry)).length + 1 < 30 ∧
      Settled (signed { calm with query := .adopt } (running (some (.query 1)))) ∧
      risingKeys (signed { calm with query := .adopt } (running (some (.query 1)))).dispatcher.panels = true ∧
      panelAt (signed { calm with query := .adopt } (running (some (.query 1)))) (32 * 1 + 1) =
        some { calm with query := .adopt } ∧
      (signAt (signed { calm with query := .adopt } (running (some (.query 1)))) (32 * 1 + 1)).isSome = true ∧
      (List.replicate 28 (0 : Byte)).length = 28 ∧
      readPanelStatus (List.replicate 28 0) = some ⟨none, List.replicate 8 (0, 0)⟩ := by unfold Settled; decide +kernel

/-- A trunk whose QUERY of position 1 is in flight, walk done. -/
def querying (q : Panel) : State := signed q (running (some (.query 1)))

/-- A pending composition whose DONE is overdue. -/
def overdueSince : Panel := { calm with awaiting := some ⟨wanted, 0, none⟩, query := .overdue }

/-- A status record that shows a composition, plate 12 in slot 8 and an unknown plate in slot 1. -/
def statusBody (shown : Composition) : List Byte :=
  [1, 1] ++ digestBytes (compositionDigest shown) ++ [255, 0, 0] ++ List.replicate 18 0 ++ [12, 0, 0]

theorem witness_CountAndQueryReplies_status :
    (statusBody wanted).length = 28 ∧
      readPanelStatus (statusBody wanted) =
        some ⟨some (compositionDigest wanted), (255, 0) :: List.replicate 6 (0, 0) ++ [(12, 0)]⟩ ∧
      compositionDigest (.empty .blank) ≠ compositionDigest wanted ∧ calm.mirror.length = 8 ∧ calm.mirror[7]? = some ⟨.free, 0⟩ ∧
      ((255, 0) :: List.replicate 6 (0, 0) ++ [(12, 0)] : List (Nat × Digest))[7]? = some (12, 0) ∧
      plateAt (querying { calm with link := .blocked }) 12 = some (readyPlate 1) ∧ (readyPlate 1).digest = 0 ∧
      (readyPlate 1).state = .ready ∧
      (∀ j, j < 7 → ((255, 0) :: List.replicate 6 (0, 0) ++ [(12, 0)] : List (Nat × Digest))[j]? ≠ some (12, 0)) ∧
      plateAt (querying { calm with link := .blocked }) 255 = none := by decide +kernel

theorem witness_CountAndQueryReplies_outcomes :
    Settled (querying { calm with link := .blocked }) ∧
      panelAt (querying { calm with link := .blocked }) (32 * 1 + 1) = some { calm with link := .blocked } ∧
      signAt (querying { calm with link := .blocked }) (32 * 1 + 1) = some ⟨.door 21 true, some 30000, none, wanted, []⟩ ∧
      Settled (querying overdueSince) ∧ overdueSince.link ≠ .blocked ∧ overdueSince.query = .overdue ∧
      overdueSince.awaiting = some ⟨wanted, 0, none⟩ ∧ { overdueSince with awaiting := none }.awaiting = none ∧
      calm.query = .none ∧ panelAt (querying calm) (32 * 1 + 1) = some calm := by unfold Settled; decide

/-- The count of trunk 1 one entry before its end, TRUNK ARMED, the sign at position 1 the highest. -/
def lastEntryDue : State :=
  let s := signed calm { running (some (.count (List.replicate 29 ⟨1, 8, 1⟩))) with state := .counting }
  { s with health := { s.health with trunkClass := .armed } }

/-- The 30th entry ends the count: chain recorded, CHAIN_CHANGED up, HEALTH before COUNT_DONE, ADOPT due (R162, R163, R164). -/
theorem witness_CountAndQueryReplies_thirtieth :
    let t := after (.countReply 1 (trunkFrame 30 1 [1, 8, 1]) quietLines) lastEntryDue
    Settled lastEntryDue ∧
      (trunkOf lastEntryDue 1).exchange = some (.count (List.replicate 29 ⟨1, 8, 1⟩)) ∧
      (List.replicate 29 (⟨1, 8, 1⟩ : ChainEntry)).length + 1 = 30 ∧ (trunkOf lastEntryDue 1).stopPending = false ∧
      risingKeys lastEntryDue.dispatcher.panels = true ∧ highestSign lastEntryDue 1 = 1 ∧
      (trunkOf t 1).chainCount = 30 ∧ isLive t (.trunk 1) .chainChanged = true ∧
      t.link.line = .notice (.health (.trunk 1) .chainChanged true true 0) ∧
      t.link.notices = [.countDone 1 (List.replicate 30 ⟨1, 8, 1⟩)] := by unfold Settled; decide +kernel

/-- A run at its 8th block: planned to it alone, or with a longer group. -/
def eighth (groupEnd : Nat) : LoadRun := ⟨1, 8, 12, 1, 8, groupEnd, groupEnd, 7⟩

/-- The panel and the trunk that carry that run to the end of its plate, a re-walk waiting. -/
def lastBlock : State :=
  signed { calm with mirror := List.replicate 7 ⟨.free, 0⟩ ++ [⟨.filling 12 0, 0⟩] }
    { running (some (.load (eighth 8))) with rewalkPending := true, step := some ⟨1, .feed 8 12 1 8, false, false⟩ }

/-- A block that ends a run while a stop waits, every panel flag live and trunk 2 up: the run's slot FREE, SILENT and its like
cleared, MISMATCH kept, the plate's run over, trunk 2 and its panel as they were (R88, R153, R158). -/
def stopping : State :=
  let s := lastBlock
  { s with
    trunks := [(1, { running (some (.load (eighth 16))) with
      stopPending := true, step := some ⟨1, .feed 8 12 1 16, false, false⟩ }), (2, running none)]
    dispatcher := { s.dispatcher with panels := s.dispatcher.panels ++ [(65, calm)] }
    plates := { s.plates with plates := assign s.plates.plates 12 { readyPlate 1 with inFlight := 1 } }
    health := { s.health with live := (conditionsOf (.panel 1 1)).map fun c => ⟨.panel 1 1, c⟩ } }

theorem test_stop_cuts_a_run :
    let t := after (.stopTakesEffect 1 (.frame (trunkFrame 1 3 [0, 8, 1])) quietLines) stopping
    Settled stopping ∧ (trunkOf t 1).state = .off ∧ trunkOf t 2 = running none ∧ panelAt t 65 = some calm ∧
      panelAt t 33 = some { calm with link := .absent, mirror := List.replicate 8 ⟨.free, 0⟩ } ∧
      t.health.live = [⟨.panel 1 1, .mismatch⟩, ⟨.panel 1 1, .panelFault⟩] ∧
      plateAt t 12 = some (readyPlate 1) := by unfold Settled; decide +kernel

/-- The plate loading into slot 8 of one panel and held by slot 1 of another is deleted: DOOMED, the run's step marked, the other
slot FREE with its stamp, its trunk told (R87, R151). -/
theorem test_deletion_releases_slots :
    let other : Panel := { calm with mirror := ⟨.loaded 12 1, 7⟩ :: List.replicate 7 ⟨.free, 0⟩ }
    let s : State :=
      { lastBlock with
        dispatcher := { lastBlock.dispatcher with panels := lastBlock.dispatcher.panels ++ [(65, other)] }
        plates :=
          { lastBlock.plates with plates := assign lastBlock.plates.plates 12 { readyPlate 1 with inFlight := 1 } } }
    let t := after (.plateDelete 1 12) s
    replyOf t = some (.ok, [3, 7, 252]) ∧ panelAt t 33 = panelAt s 33 ∧
      panelAt t 65 = some { other with mirror := ⟨.free, 7⟩ :: List.replicate 7 ⟨.free, 0⟩ } ∧
      (trunkOf t 1).step = some ⟨1, .feed 8 12 1 8, false, true⟩ := by decide +kernel

/-- A show in flight. -/
def showingOne (failures : Nat) : State :=
  signed { calm with failures := failures }
    { running (some (.showing 1 wanted)) with step := some ⟨1, .showing wanted 3, false, false⟩ }

theorem witness_LoadShowAndCallReplies :
    Settled (signed calm (running (some (.load (eighth 16))))) ∧ (eighth 16).planned = (eighth 16).first + 7 ∧
      (eighth 16).acked = 7 ∧ (eighth 16).first + 7 < (eighth 16).groupEnd ∧ anyAttention quietLines = false ∧
      ({ eighth 16 with acked := 0 } : LoadRun).first + 0 + 1 ≤ (eighth 16).planned ∧ Settled lastBlock ∧
      (trunkOf lastBlock 1).exchange = some (.load (eighth 8)) ∧
      (eighth 8).planned = (eighth 8).first + (eighth 8).acked ∧
      (trunkOf lastBlock 1).step = some ⟨1, .feed 8 12 1 8, false, false⟩ ∧
      panelAt lastBlock (32 * 1 + 1) =
        some { calm with mirror := List.replicate 7 ⟨.free, 0⟩ ++ [⟨.filling 12 0, 0⟩] } ∧
      (slotAt (List.replicate 7 ⟨.free, 0⟩ ++ [⟨.filling 12 0, 0⟩]) 8).state = .filling 12 (1 - 1) ∧
      plateAt lastBlock 12 = some (readyPlate 1) ∧ Settled (showingOne 1) ∧
      (trunkOf (showingOne 1) 1).exchange = some (.showing 1 wanted) ∧
      (trunkOf (showingOne 1) 1).step = some ⟨1, .showing wanted 3, false, false⟩ ∧
      panelAt (showingOne 1) (32 * 1 + 1) = some { calm with failures := 1 } := by unfold Settled; decide +kernel

/-- The run's step marked. -/
def markedBlock (orphaned release : Bool) : State :=
  { lastBlock with
    trunks := [(1, { running (some (.load (eighth 8))) with step := some ⟨1, .feed 8 12 1 8, orphaned, release⟩ })] }

/-- The ends of a run: a panel with no more to take, a stop pending, the planned blocks done; and the marks of its step. -/
theorem witness_LoadShowAndCallReplies_run_ends :
    (eighth 8).first + (eighth 8).acked < 65536 ∧ (eighth 8).planned ≤ (eighth 8).first + (eighth 8).acked ∧
      ¬ ((eighth 8).acked = 7 ∧ (eighth 8).first + 7 < (eighth 8).groupEnd) ∧
      anyAttention ⟨false, false, false, true⟩ = true ∧
      ∀ orphaned release,
        (trunkOf (markedBlock orphaned release) 1).exchange = some (.load (eighth 8)) ∧
          (trunkOf (markedBlock orphaned release) 1).step = some ⟨1, .feed 8 12 1 8, orphaned, release⟩ ∧
          (eighth 8).plate = 12 ∧ (eighth 8).slot = 8 ∧
          panelAt (markedBlock orphaned release) (32 * 1 + 1) =
            some { calm with mirror := List.replicate 7 ⟨.free, 0⟩ ++ [⟨.filling 12 0, 0⟩] } ∧
          (slotAt (List.replicate 7 ⟨.free, 0⟩ ++ [⟨.filling 12 0, 0⟩]) 8).state = .filling 12 0 := by decide

/-- A run that completes its plate under a release mark: the FREE slot has the stamp of that instant (R136). -/
theorem test_release_after_a_complete_run :
    let t := after (.loadAck 1 (trunkFrame 1 3 [0, 8, 1]) quietLines) { markedBlock false true with now := 5000 }
    (panelAt t 33).map (fun q => slotAt q.mirror 8) = some ⟨.free, 5000⟩ := by decide +kernel

/-- A run and a SHOW in flight for a record that is gone, and a QUERY of a position without one (R146, R152). -/
theorem witness_LoadShowAndCallReplies_gone :
    (∀ orphaned, panelAt { markedBlock orphaned false with dispatcher := ⟨[], 1⟩ } (32 * 1 + 1) = none) ∧
      (trunkOf { markedBlock false false with dispatcher := ⟨[], 1⟩ } 1).step = some ⟨1, .feed 8 12 1 8, false, false⟩ ∧
      panelAt { showingOne 0 with dispatcher := ⟨[], 1⟩ } (32 * 1 + 1) = none ∧
      (trunkOf { showingOne 0 with dispatcher := ⟨[], 1⟩ } 1).step = some ⟨1, .showing wanted 3, false, false⟩ ∧
      panelAt (signed calm (running (some (.query 30)))) (32 * 1 + 30) = none := by decide

/-- A composition digest in two bytes. -/
def digestHigh (c : Composition) : Byte := (compositionDigest c >>> 8).truncate 8
def digestLow (c : Composition) : Byte := (compositionDigest c).truncate 8

theorem witness_LoadShowAndCallReplies_call :
    Settled (signed { calm with awaiting := some ⟨wanted, 0, none⟩, credit := -1 } (running (some .call))) ∧
      (trunkOf (signed calm (running (some .call))) 1).chainCount = 1 ∧
      readDigest (digestHigh wanted) (digestLow wanted) = compositionDigest wanted ∧
      signAt (signed calm (running (some .call))) (32 * 1 + 1) = some ⟨.door 21 true, some 30000, none, wanted, []⟩ ∧
      (-1 : Int) ≤ ({ calm with credit := -1 } : Panel).credit := by unfold Settled; decide +kernel

/-- A CALL in flight on a trunk of one panel: whom it may name, and the panel's records that its report meets. -/
theorem witness_LoadShowAndCallReplies_reports :
    let calling := fun (q : Panel) => signed q (running (some .call))
    Settled (calling calm) ∧ (trunkOf (calling calm) 1).chainCount < 2 ∧
      panelAt (signed calm { running (some .call) with chainCount := 30 }) (32 * 1 + 30) = none ∧
      panelAt (calling { calm with awaiting := some ⟨wanted, 0, none⟩ }) (32 * 1 + 1) =
        some { calm with awaiting := some ⟨wanted, 0, none⟩ } ∧
      readDigest 0 0 ≠ compositionDigest wanted ∧ calm.awaiting = none ∧ { calm with link := .blocked }.link ≠ .present ∧
      slotPlate (slotAt (⟨.loaded 12 1, 0⟩ :: List.replicate 7 ⟨.free, 0⟩) 1) = some 12 ∧ 12 ∈ namedPlates wanted ∧
      ((0 : Byte).toNat * 256 + (8 : Byte).toNat = 8 ∧ (1 : Byte).toNat * 256 + (8 : Byte).toNat = 264) ∧
      panelAt (calling { calm with link := .blocked }) (32 * 1 + 1) = some { calm with link := .blocked } := by
  unfold Settled; decide +kernel

/-- A KEY on a sign in its NORMAL view and on one in its DAYLIST view (R121). -/
theorem witness_LoadShowAndCallReplies_key :
    let calling := signed calm (running (some .call))
    let normal : State := { calling with resolver := ⟨[(33, ⟨.door 21 true, none, none, wanted, []⟩)], [], []⟩ }
    let key := Instr.callReply 1 (trunkFrame 1 5 [1, 5, 0, 0, 0]) quietLines
    (signAt calling 33).bind (fun g => g.view) = some 30000 ∧ (signAt normal 33).bind (fun g => g.view) = none ∧
      calm.link = .present ∧ (-1 : Int) ≤ calm.credit ∧
      (signAt (after key (atMinute 850 normal)) 33).map (fun g => (g.view, g.desired.kind)) = some (some 30000, .dayList) ∧
      (signAt (after key { calling with now := 9 }) 33).map (fun g => (g.view, g.desired)) = some (some 30009, wanted) := by
  decide +kernel

theorem witness_ReplyTimeouts :
    Settled (signed { calm with failures := 1 } (running (some (.query 1)))) ∧
      (trunkOf (signed { calm with failures := 2 } (running (some (.query 1)))) 1).exchange = some (.query 1) ∧
      panelAt (signed { calm with failures := 2 } (running (some (.query 1)))) (32 * 1 + 1) =
        some { calm with failures := 2 } ∧
      Settled (signed calm { running (some (.count [])) with state := .counting }) ∧
      (trunkOf (signed calm { running (some (.count [])) with state := .counting }) 1).state = .counting ∧
      (signed calm { running (some (.count [])) with state := .counting }).health.trunkClass ≠ .armed := by
  unfold Settled; decide

/-- Exchanges that get no reply, and frames that are none. -/
theorem witness_ReplyTimeouts_no_reply :
    panelAt (querying { calm with link := .blocked }) (32 * 1 + 1) = some { calm with link := .blocked } ∧
      (trunkOf (querying { calm with link := .blocked }) 1).state = .running ∧ Settled (markedBlock true false) ∧
      Settled (showingOne 2) ∧ (trunkOf (showingOne 2) 1).step = some ⟨1, .showing wanted 3, false, false⟩ ∧
      panelAt (showingOne 2) (32 * 1 + 1) = some { calm with failures := 2 } ∧
      (trunkOf (signed calm (running (some .call))) 1).exchange = some .call ∧
      (trunkFrame 1 4 [1] : List Byte) ≠ trunkFrame 1 4 [0] := by unfold Settled; decide +kernel

theorem witness_ReplyTimeouts_short_frame :
    (∀ kind slots key, ([] : List Byte) ≠ trunkFrame 1 1 [kind, slots, key]) ∧
      (∀ body, body.length = 28 → ([] : List Byte) ≠ trunkFrame 1 2 body) ∧
      (∀ f : Byte, f.getLsbD 1 = false → ([] : List Byte) ≠ trunkFrame 1 3 (u16 8 ++ [f])) ∧
      ∀ p level code hi lo : Byte, ([] : List Byte) = trunkFrame p.toNat 5 [p, level, code, hi, lo] →
        p = 0 ∨ 1 < p.toNat ∨ level.toNat < 4 ∨ 7 < level.toNat := by
  refine ⟨fun _ _ _ h => ?_, fun _ _ h => ?_, fun _ _ h => ?_, fun _ _ _ _ _ h => ?_⟩ <;> simp [trunkFrame, u8] at h

/-! ### Witnesses: health and restart -/

/-- A LINE_SHORT live and held, TRUNK armed, PANEL in grace with a live flag, walls one sample before their end. -/
def watched : State :=
  { shortOn3 with
    health :=
      { shortOn3.health with
        live := [⟨.panel 1 1, .silent⟩, ⟨.trunk 3, .lineShort⟩]
        held := [⟨.trunk 3, .lineShort⟩]
        summary := true
        wallWindows := ⟨8, 7, [(32, 4)]⟩
        lineWindows := [(3, ⟨4, 2, 0, 0, 0⟩)]
        panelClass := .grace 30000 } }

theorem witness_HealthRequests :
    Settled watched ∧ classOf 3 = some .layout ∧ classState watched .layout = .disarmed ∧
      classState watched .trunk ≠ .disarmed ∧ objectOf 2 0 3 = some (.trunk 3) ∧
      (allConditions.filter fun c => Nat.testBit 0xE0 (conditionCode c - 1)) = [.lineShort, .lineOpen, .chainChanged] ∧
      (∀ c ∈ [Condition.lineShort, .lineOpen, .chainChanged], c ∈ conditionsOf (.trunk 3)) ∧
      conditionOf 10 = some .layoutMismatch ∧ watched.health.lineSetting ≤ 4 ∧ 4 < watched.health.wallSetting ∧
      watched.health.layoutClass = .disarmed ∧
      4 < { watched.health with lineSetting := 8 }.lineSetting ∧ watched.health.trunkClass ≠ .disarmed := by
  unfold Settled; decide

theorem witness_SamplesAndGrace :
    Settled watched ∧ watched.health.wallWindows.length ≤ watched.health.wallWindows.taken + 1 ∧ Settled shortOn3 ∧
      shortOn3.health.wallWindows.taken + 1 < shortOn3.health.wallWindows.length ∧
      classState watched .panel = .grace 30000 ∧ (trunkOf watched 3).exchange = some .probe ∧
      (lineWindowOf watched 3).taken + 1 < (lineWindowOf watched 3).length := by unfold Settled; decide

/-- A FAULTED trunk with LINE_SHORT live, one sample before the end of its window. -/
def mending (short : Nat) : State :=
  { watched with
    trunks := [(3, { Trunk.reset with state := .faulted, exchange := some .probe, probeInterval := some 9 })]
    health := { watched.health with lineWindows := [(3, ⟨4, 3, short, 0, 0⟩)] } }

/-- A condition that rises: in an ARMED class with its held flag clear, with it set, and in a class that is not ARMED. -/
theorem witness_SamplesAndGrace_flags :
    let cleared : State := { watched with health := { watched.health with live := [] } }
    (isLive shortOn3 (.trunk 3) .lineShort = false ∧ classState shortOn3 (conditionClass .lineShort) = .armed ∧
        isHeld shortOn3 (.trunk 3) .lineShort = false ∧ isSelected shortOn3 .lineShort = true) ∧
      (isLive cleared (.trunk 3) .lineShort = false ∧ isHeld cleared (.trunk 3) .lineShort = true) ∧
      classState quiet (conditionClass .lineShort) ≠ .armed ∧ isLive watched (.trunk 3) .lineShort = true ∧
      (setLive (.trunk 3) .lineShort true shortOn3).outbox = [.health (.trunk 3) .lineShort true true 0] ∧
      (setLive (.trunk 3) .lineShort true cleared).outbox = [] := by decide

/-- A short judged while a stop waits: FAULTED and then OFF; a test that leaves LINE_SHORT alone: the trunk decides. -/
theorem witness_SamplesAndGrace_stop_pending :
    let stopping : State :=
      { shortOn3 with trunks := [(3, { trunkOf shortOn3 3 with stopPending := true, probeInterval := none })] }
    Settled stopping ∧ (trunkOf stopping 3).exchange = some .probe ∧ (trunkOf stopping 3).state = .running ∧
      2 * ((lineWindowOf stopping 3).short + 1) > (lineWindowOf stopping 3).length ∧
      (trunkOf (after (.probeEnd 3 .short quietLines) stopping) 3).state = .off ∧
      ¬ 2 * ((lineWindowOf watched 3).short) > (lineWindowOf watched 3).length ∧
      (trunkOf (after (.probeEnd 3 .ok ⟨true, false, false, false⟩) watched) 3).exchange = some .call := by
  unfold Settled; decide +kernel

/-- A full line window, over one half of it SHORT, and one quarter of it. -/
theorem witness_SamplesAndGrace_full_line_window :
    Settled shortOn3 ∧ (lineWindowOf shortOn3 3).length ≤ (lineWindowOf shortOn3 3).taken + 1 ∧
      (trunkOf shortOn3 3).exchange = some .probe ∧ (trunkOf shortOn3 3).state = .running ∧
      (trunkOf shortOn3 3).stopPending = false ∧ isLive shortOn3 (.trunk 3) .lineShort = false ∧
      2 * (lineWindowOf shortOn3 3).short > (lineWindowOf shortOn3 3).length ∧ Settled (mending 1) ∧
      (trunkOf (mending 1) 3).exchange = some .probe ∧ (trunkOf (mending 1) 3).state = .faulted ∧
      (trunkOf (mending 1) 3).stopPending = false ∧ isLive (mending 1) (.trunk 3) .lineShort = true ∧
      4 * (lineWindowOf (mending 1) 3).short ≤ (lineWindowOf (mending 1) 3).length := by unfold Settled; decide

theorem witness_RestartSignsStartsAnew :
    (1 : Byte) ≠ 0 ∧ Settled watched ∧ Settled (store (wholePlate .doomed 1) 2047) ∧
      risingKeys (store (wholePlate .doomed 1) 2047).plates.plates = true ∧
      ((store (wholePlate .doomed 1) 2047).plates.plates.map fun e => e.2.pages.length).sum ≠ 0 := by
  unfold Settled; decide

/-- A RUNNING trunk with probing on starts anew, chain and timers gone; one that is stopping stays OFF (R179, R180). -/
theorem test_restart_trunks :
    let x : Trunk := { running (some .call) with
      probing := true, chainTable := [⟨1, 8, 1⟩], walkPosition := 1, probeDue := true, recovery := [(1, .due)] }
    trunkOf (after (.restartSigns 1) (signed calm x)) 1 =
        { Trunk.reset with
          state := .counting, probing := true, exchange := some (.count []), probeInterval := some 10000 } ∧
      trunkOf (after (.restartSigns 1) (signed calm { x with stopPending := true })) 1 =
        { Trunk.reset with probing := true } := by decide +kernel

/-- The page of a DOOMED plate satisfies the watch: POOL_AVAILABLE behind the reply (R90, R94). -/
theorem test_restart_satisfies_the_watch :
    ((after (.restartSigns 1) (store (wholePlate .doomed 1) 2047)).link.service.map fun r => r.after) =
      [[.poolAvailable 2048]] := by decide +kernel

/-! ### Witnesses: every check of the requests, at the bounds of its fields, with the checks before it passed -/

/-- The statuses of the replies to requests made of one state. -/
def statuses (l : List Instr) (s : State) : List (Option Status) := l.map fun i => (replyOf (after i s)).map (·.1)

/-- Every request of a list is refused with one status, and the state but for the link is as it was. -/
def allAnswer (status : Status) (l : List Instr) (s : State) : Bool :=
  (statuses l s).all (· == some status) && l.all fun i => { after i s with link := s.link } == s

/-- Hall C with a second hall, 1, of segments 1 and 2, and line 24 in CONTACT mode. -/
def twoHalls : State :=
  let s := hallC afterBatch
  { s with
    layout := { s.layout with halls := (1, ⟨[1, 2], 13, [⟨[1], none⟩, ⟨[2], none⟩], false⟩) :: s.layout.halls }
    sense := { s.sense with lines := [(24, ⟨.high, .contact ⟨some .high, none⟩ .low .rise 3 false false⟩)] } }

theorem test_refusals_timing_and_reads :
    let s := hallC afterBatch
    allAnswer .outOfRange
        [.roomTiming 1 0 240 60 30, .roomTiming 1 97 240 60 30, .roomTiming 1 96 241 60 30, .roomTiming 1 96 240 61 30,
         .roomTiming 1 96 240 60 31, .ttRead 1 97 94371839 1023 32, .ttRead 1 96 94371840 1023 32,
         .ttRead 1 96 94371839 1024 32, .ttRead 1 96 94371839 1023 0, .ttRead 1 96 94371839 1023 33, .layoutRead 1 13,
         .plateList 1 0 32, .plateList 1 256 32, .plateList 1 255 0, .plateList 1 255 33, .signRead 1 0 30,
         .signRead 1 5 30, .signRead 1 4 31, .healthRead 1 0 1 1 1, .healthRead 1 3 1 1 1, .healthRead 1 1 1 5 1,
         .healthRead 1 2 2 144 32, .healthRead 1 2 2 143 0, .healthRead 1 2 2 143 33] s = true ∧
      allAnswer .notFound
        [.roomTiming 1 96 240 60 30, .ttRead 1 96 94371839 1023 32, .layoutRead 1 12, .signRead 1 4 30] s = true := by
  decide +kernel

theorem test_refusals_halls :
    let s := twoHalls
    allAnswer .outOfRange
        [.hallDefine 1 0 [40] 12, .hallDefine 1 13 [40] 12, .hallDefine 1 12 [] 12,
         .hallDefine 1 12 [34, 35, 36, 37, 38, 39, 40] 12, .hallDefine 1 12 [40, 40] 12, .hallDefine 1 12 [0] 12,
         .hallDefine 1 12 [41] 12, .hallDefine 1 12 [40] 0, .hallRemove 1 0, .hallRemove 1 13] s = true ∧
      allAnswer .exists [.hallDefine 1 12 [40, 21] 255] s = true ∧
      allAnswer .inUse [.hallDefine 1 3 [21, 22] 255, .hallRemove 1 3] s = true ∧
      allAnswer .notFound [.hallDefine 1 12 [40] 255, .hallRemove 1 12] s = true := by decide +kernel

theorem test_refusals_walls :
    let s := twoHalls
    allAnswer .outOfRange
        [.wallDefine 1 0 1 2 2 1 0, .wallDefine 1 33 1 2 2 1 0, .wallDefine 1 32 0 2 2 1 0, .wallDefine 1 32 41 2 2 1 0,
         .wallDefine 1 32 1 41 2 1 0, .wallDefine 1 32 1 1 2 1 0, .wallDefine 1 32 1 2 3 1 2, .wallDefine 1 32 1 2 1 0 2,
         .wallDefine 1 32 1 2 1 25 2, .wallDefine 1 32 1 2 1 1 25, .wallDefine 1 32 1 2 1 1 1, .wallDefine 1 32 1 2 2 3 0,
         .wallDefine 1 32 1 21 2 1 0, .wallRemove 1 0, .wallRemove 1 33, .wallSet 1 0 1, .wallSet 1 33 1, .wallSet 1 7 0,
         .wallSet 1 7 3] s = true ∧
      allAnswer .exists [.wallDefine 1 7 39 40 2 1 0, .wallDefine 1 32 22 21 1 24 1] s = true ∧
      allAnswer .notFound [.wallDefine 1 32 1 40 2 1 0, .wallRemove 1 32, .wallSet 1 32 2] s = true ∧
      allAnswer .inUse [.wallDefine 1 32 1 2 1 24 1, .wallDefine 1 32 1 2 1 1 24, .wallRemove 1 7] s = true ∧
      allAnswer .wrongMode [.wallSet 1 32 2] (pairHall [(32, openingWall)] []) = true := by decide +kernel

theorem test_refusals_rooms :
    let s := twoHalls
    allAnswer .outOfRange
        [.roomDefine 1 0 3 [21] 12, .roomDefine 1 97 3 [21] 12, .roomDefine 1 96 0 [21] 12, .roomDefine 1 96 13 [21] 12,
         .roomDefine 1 96 3 [] 12, .roomDefine 1 96 3 [34, 35, 36, 37, 38, 39, 40] 12, .roomDefine 1 96 3 [21, 21] 12,
         .roomDefine 1 96 3 [41] 12, .roomDefine 1 96 3 [21] 0, .roomDefine 1 96 3 [21, 1] 12,
         .roomDefine 1 96 3 [23, 21] 12, .roomRemove 1 0, .roomRemove 1 97] s = true ∧
      allAnswer .notFound [.roomDefine 1 96 12 [40] 12, .roomDefine 1 96 3 [21, 22] 255, .roomRemove 1 96] s = true ∧
      allAnswer .exists [.roomDefine 1 96 3 [23, 22] 12] s = true ∧
      allAnswer .inUse [.roomDefine 1 32 3 [21, 22] 255, .roomRemove 1 32] s = true := by decide +kernel

theorem test_refusals_lines :
    allAnswer .outOfRange
        [.senseConfig 1 0 0 0 0 0, .senseConfig 1 25 0 0 0 0, .senseConfig 1 24 4 1 1 1, .senseConfig 1 24 1 2 1 0,
         .senseConfig 1 24 1 1 0 0, .senseConfig 1 24 1 1 4 0, .senseConfig 1 24 1 1 3 13, .senseConfig 1 24 3 0 0 0,
         .senseConfig 1 24 3 13 0 0] twoHalls = true ∧
      allAnswer .wrongMode [.senseConfig 1 1 2 0 0 0] twoHalls = true ∧
      allAnswer .exists [.senseConfig 1 1 1 0 1 3] twoHalls = true ∧
      allAnswer .inUse [.senseConfig 1 1 2 0 0 0, .senseConfig 1 24 0 0 0 0]
        (pairHall [(32, openingWall)]
          [(1, ⟨.low, .wall ⟨none, some (.low, 50)⟩ 32⟩), (24, ⟨.high, .wall ⟨some .high, none⟩ 32⟩)]) = true := by
  decide +kernel

theorem test_refusals_plates :
    allAnswer .outOfRange
        [.plateData 1 0 1 [7], .plateData 1 256 1 [7], .plateData 1 255 65536 [7], .plateData 1 255 1 [],
         .plateData 1 255 1 (List.replicate 769 7), .plateData 1 255 1 [7, 7], .plateClose 1 0, .plateClose 1 256,
         .plateDelete 1 0, .plateDelete 1 256] (store halfFilled 2047) = true ∧
      allAnswer .wrongMode [.plateData 1 1 0 [7], .plateClose 1 1] (store halfFilled 2047) = true ∧
      allAnswer .wrongMode [.plateData 1 255 1 [7], .plateClose 1 255] (store (wholePlate .ready 0) 2047) = true ∧
      allAnswer .sequence [.plateData 1 255 0 [7, 7], .plateClose 1 255] (store halfFilled 2047) = true ∧
      allAnswer .notFound [.plateDelete 1 1, .settingsPlates 1 ⟨0, 0, 0, 0, 0, 0, 255⟩] (store halfFilled 2047) = true ∧
      allAnswer .inUse [.plateDelete 1 255] named = true := by decide +kernel

theorem test_refusals_signs :
    allAnswer .outOfRange
        [.signDefine 1 0 30 (.door 40 1), .signDefine 1 5 30 (.door 40 1), .signDefine 1 4 0 (.door 40 1),
         .signDefine 1 4 31 (.door 40 1), .signDefine 1 4 30 (.door 0 1), .signDefine 1 4 30 (.door 41 1),
         .signDefine 1 4 30 (.door 40 2), .signDefine 1 4 30 (.corridor []),
         .signDefine 1 4 30 (.corridor ((List.range 9).map fun g => (g + 1, 0))), .signDefine 1 4 30 (.corridor [(41, 7)]),
         .signDefine 1 4 30 (.corridor [(40, 8)]), .signDefine 1 4 30 (.corridor [(40, 7), (40, 7)]),
         .signDefine 1 4 30 (.other 3 40 1), .signRemove 1 0 30, .signRemove 1 5 30, .signRemove 1 4 0,
         .signRemove 1 4 31] twoHalls = true ∧
      allAnswer .notFound
        [.signDefine 1 4 30 (.door 40 1), .signDefine 1 4 30 (.corridor [(21, 7), (40, 7)]), .signRemove 1 4 30]
        twoHalls = true := by decide +kernel

theorem test_refusals_trunks :
    let busy := signed calm (running (some .call))
    let stopping := signed calm { running (some .call) with stopPending := true }
    allAnswer .outOfRange
        [.trunkStart 1 0 1, .trunkStart 1 5 1, .trunkStart 1 4 2, .trunkStop 1 0, .trunkStop 1 5, .trunkCount 1 0,
         .trunkCount 1 5, .trunkCheck 1 0, .trunkCheck 1 5] busy = true ∧
      allAnswer .busy [.trunkStart 1 1 1] busy = true ∧
      allAnswer .busy [.trunkCount 1 1, .trunkCheck 1 1] stopping = true ∧
      allAnswer .busy [.trunkCount 1 1] (signed calm { running (some (.count [])) with state := .counting }) = true ∧
      allAnswer .wrongMode [.trunkCount 1 4, .trunkCheck 1 4] busy = true ∧
      allAnswer .wrongMode [.trunkCount 1 3]
        { shortOn3 with trunks := [(3, { Trunk.reset with state := .faulted })] } = true := by decide +kernel

theorem test_refusals_health :
    allAnswer .outOfRange
      [.healthArm 1 0, .healthArm 1 4, .healthClear 1 2 0 5 0x20, .healthClear 1 2 0 4 0, .healthClear 1 2 0 4 0x8000,
       .healthClear 1 2 0 4 0x120, .healthSelect 1 0 1, .healthSelect 1 11 1, .healthSelect 1 10 2, .healthWindow 1 0 32,
       .healthWindow 1 3 32, .healthWindow 1 2 31] watched = true := by decide +kernel

/-! ### Witnesses: the laws every step keeps -/

/-- A state with one command waiting. -/
def queued (c : Instr) (s : State) : State := { s with pending := [c] }

theorem witness_SettledKept :
    Settled (queued .clockIntervalEnd quiet) ∧ ∃ t, step (queued .clockIntervalEnd quiet) = .next t :=
  ⟨quiet_settled, _, rfl⟩

theorem witness_LinkLawfulKept :
    LinkLawful (queued (.identify 1) (replying 32 false)) ∧
      ∃ t, step (queued (.identify 1) (replying 32 false)) = .next t := by
  refine ⟨?_, _, rfl⟩
  unfold LinkLawful; decide

theorem witness_ClockLawfulKept :
    ClockLawful (queued .clockIntervalEnd (reading 65535 1439 59 quiet)) ∧
      ∃ t, step (queued .clockIntervalEnd (reading 65535 1439 59 quiet)) = .next t := by
  refine ⟨?_, _, rfl⟩
  unfold ClockLawful; decide

theorem witness_TimetableLawfulKept :
    TimetableLawful (queued (.ttApply 1 [.cancel 401]) (hallC afterBatch)) ∧
      ∃ t, step (queued (.ttApply 1 [.cancel 401]) (hallC afterBatch)) = .next t :=
  ⟨batch_lawful _ rfl _ rfl (.inr rfl), _, rfl⟩

theorem witness_LayoutLawfulKept :
    LayoutLawful (queued (.wallSet 1 7 1) (hallC afterBatch)) ∧
      ∃ t, step (queued (.wallSet 1 7 1) (hallC afterBatch)) = .next t := ⟨hallC_layout_lawful, _, rfl⟩

theorem witness_LampsLawfulKept :
    LampsLawful (queued (.wallSet 1 7 1) lampLit) ∧ ∃ t, step (queued (.wallSet 1 7 1) lampLit) = .next t :=
  ⟨lampLit_lawful, _, rfl⟩

theorem witness_PoolLawfulKept :
    PoolLawful (queued (.plateDelete 1 255) (store halfFilled 2047)) ∧
      ∃ t, step (queued (.plateDelete 1 255) (store halfFilled 2047)) = .next t := ⟨halfFilled_lawful, _, rfl⟩

theorem witness_ReferencesLawfulKept :
    ReferencesLawful (queued (.plateDelete 1 255) named) ∧ ∃ t, step (queued (.plateDelete 1 255) named) = .next t :=
  ⟨named_lawful, _, rfl⟩

/-- The sign's panel is queued, and a show step for it is in flight against a credit of −1. -/
def inFlight : State :=
  signed { calm with credit := -1, queue := some ⟨true, 0, 0⟩ }
    { running (some (.showing 1 wanted)) with step := some ⟨1, .showing wanted 3, false, false⟩ }

theorem only_panel {α : Type} (x y : α) (k : Nat) (h : lookup [(33, x)] k = some y) : k = 33 ∧ y = x := by
  simp only [lookup] at h
  split at h
  · next hk => exact ⟨hk.symm, by simpa using h.symm⟩
  · cases h

theorem only_trunk (x : Trunk) (s : State) (t : Nat) (h : s.trunks = [(1, x)]) :
    trunkOf s t = if t = 1 then x else Trunk.reset := by
  simp only [trunkOf, lookupD, h, lookup]
  by_cases ht : t = 1
  · subst ht; rfl
  · rw [if_neg (fun e => ht e.symm), if_neg ht]; rfl

theorem inFlight_credit_lawful : CreditLawful inFlight := by
  have at1 := fun t => only_trunk _ inFlight t rfl
  refine ⟨fun t => ?_, rfl, ?_, ?_⟩
  · rw [at1]; split
    · exact busy_trunk_lawful rfl rfl (by decide) (by simp) (by simp) (by simp [exchangePosition])
    · exact idle_trunk_lawful rfl rfl (by decide)
  · intro k p h
    obtain ⟨-, rfl⟩ := only_panel _ _ _ h
    decide
  · intro t d c cost hd hk
    rw [at1] at hd; split at hd
    · simp at hd; subst hd
      simp only [StepKind.showing.injEq] at hk
      obtain ⟨-, rfl⟩ := hk
      refine ⟨by decide, fun _ p h => ?_⟩
      obtain ⟨-, rfl⟩ := only_panel _ _ _ h
      decide
    · simp [Trunk.reset] at hd

theorem witness_CreditLawfulKept :
    CreditLawful (queued (.showAnswer 1 (trunkFrame 1 4 [0]) quietLines) inFlight) ∧
      ∃ t, step (queued (.showAnswer 1 (trunkFrame 1 4 [0]) quietLines) inFlight) = .next t :=
  ⟨inFlight_credit_lawful, _, rfl⟩

theorem inFlight_queue_lawful : QueueLawful inFlight := by
  refine ⟨rfl, rfl, fun k => ⟨?_, ?_⟩⟩
  · simp only [signAt, panelAt, inFlight, signed, lookup]; split <;> rfl
  · intro g p hg hp
    obtain ⟨-, rfl⟩ := only_panel _ _ _ hg
    obtain ⟨-, rfl⟩ := only_panel _ _ _ hp
    decide

theorem witness_QueueLawfulKept :
    QueueLawful (queued (.showAnswer 1 (trunkFrame 1 4 [0]) quietLines) inFlight) ∧
      ∃ t, step (queued (.showAnswer 1 (trunkFrame 1 4 [0]) quietLines) inFlight) = .next t :=
  ⟨inFlight_queue_lawful, _, rfl⟩

theorem witness_HealthLawfulKept :
    HealthLawful (queued (.graceEnd .panel) watched) ∧ ∃ t, step (queued (.graceEnd .panel) watched) = .next t := by
  refine ⟨⟨?_, ?_, by decide, by decide, by decide⟩, _, rfl⟩ <;> simp [queued, watched, HeldBefore]

end Sys2Proof.Tests
end

section
/-! SUPPORT. The Link Interface: what the pins, the arbitration, the receiver, the end of a frame and the full reset do,
once each; and the statements of 01_the_control_link.md on IDENTIFY, the receiver, the transmitter and the full reset. -/

namespace Sys2Proof.Machine

/-! ### Tables whose unlisted numbers read as a default -/

/-- Records equal to what an unlisted number reads as need not be listed. -/
theorem lookupD_filter_ne_default {α : Type} [DecidableEq α] {t : Table α} (h : risingKeys t = true) (d : α) (k : Nat) :
    lookupD (t.filter fun e => e.2 != d) k d = lookupD t k d := by
  unfold lookupD
  cases hf : lookup (t.filter fun e => e.2 != d) k with
  | some v => rw [lookup_of_mem h (List.mem_filter.mp (mem_of_lookup hf)).1]
  | none =>
    cases ht : lookup t k with
    | none => rfl
    | some v =>
      by_cases hv : v = d
      · simp [hv]
      · have kept : (k, v) ∈ t.filter fun e => e.2 != d := List.mem_filter.mpr ⟨mem_of_lookup ht, by simpa using hv⟩
        rw [lookup_of_mem (risingKeys_filter h _) kept] at hf
        cases hf

theorem lookupD_mapTable {α : Type} (f : Nat → α → α) (t : Table α) {d : α} {k : Nat} (hd : f k d = d) :
    lookupD (mapTable f t) k d = f k (lookupD t k d) := by
  unfold lookupD
  rw [lookup_mapTable]
  cases lookup t k with
  | none => exact hd.symm
  | some v => rfl

/-! ### The transmitter's arbitration (R13, R16) -/

@[simp] theorem silenced_modifyLink (f : Link → Link) (s : State) : silenced (modifyLink f s) = silenced s := rfl

/-- A part that may transmit begins its next frame as its link is changed. -/
theorem arbitrate_modifyLink {s : State} (heard : silenced s = false) (f : Link → Link) :
    arbitrate (modifyLink f s) = { s with link := nextFrame (f s.link) } := by
  rw [arbitrate, silenced_modifyLink, heard]
  rfl

theorem Settled.modifyLink {s : State} (h : Settled s) (f : Link → Link) : Settled (modifyLink f s) := h.congr rfl rfl

theorem Settled.arbitrate {s : State} (h : Settled s) : Settled (arbitrate s) := by
  rw [arbitrate_eq]
  exact h.congr rfl rfl

/-- Nothing is ready. -/
theorem nextFrame_nothing {l : Link} (hs : l.service = []) (hn : l.notices = []) : nextFrame l = l := by
  unfold nextFrame
  cases l.line <;> simp [hs, hn]

/-- A notice goes: no reply is ready, or a reply was the last to go (R13). -/
theorem nextFrame_notice {l : Link} {n : Notice} {rest : List Notice} (hl : l.line = .idle) (hn : l.notices = n :: rest)
    (turn : l.service = [] ∨ l.lastSent = .reply) : nextFrame l = { l with line := .notice n, notices := rest } := by
  unfold nextFrame
  cases hs : l.service with
  | nil => simp [hl, hn]
  | cons r rs =>
    have last : l.lastSent = .reply := turn.resolve_left (by simp [hs])
    simp [hl, hn, last]

/-- A reply goes: no notice waits, or the last to go was no reply (R13). -/
theorem nextFrame_reply {l : Link} (hl : l.line = .idle) (hs : l.service ≠ [])
    (turn : l.notices = [] ∨ l.lastSent ≠ .reply) : nextFrame l = { l with line := .reply } := by
  unfold nextFrame
  obtain ⟨r, rs, hr⟩ := List.exists_cons_of_ne_nil hs
  cases hn : l.notices with
  | nil => simp [hl, hr]
  | cons n rest =>
    have last : l.lastSent ≠ .reply := turn.resolve_left (by simp [hn])
    simp [hl, hr, last]

/-! ### Notices joining (R12) -/

theorem joinNotice_room {n : Notice} {l : Link} (h : l.notices.length < 32) :
    joinNotice n l = { l with notices := l.notices ++ [n] } := if_pos h

theorem joinNotice_full {n : Notice} {l : Link} (h : 32 ≤ l.notices.length) :
    joinNotice n l = { l with overflow := true } := if_neg (Nat.not_lt.mpr h)

/-- Notices joining one by one: the first of them up to 32 in all, the rest lost with the overflow flag (R12). -/
theorem foldl_joinNotice (ns : List Notice) :
    ∀ l : Link, l.notices.length ≤ 32 →
      ns.foldl (fun acc n => joinNotice n acc) l =
        { l with
          notices := (l.notices ++ ns).take 32
          overflow := l.overflow || decide (32 < l.notices.length + ns.length) } := by
  induction ns with
  | nil =>
    intro l h
    have kept : l.notices.take 32 = l.notices := List.take_of_length_le h
    simp [kept, Nat.not_lt.mpr h]
  | cons n ns ih =>
    intro l h
    rw [List.foldl_cons]
    by_cases room : l.notices.length < 32
    · have fits : (l.notices ++ [n]).length ≤ 32 := by
        rw [List.length_append, List.length_singleton]
        omega
      rw [joinNotice_room room, ih { l with notices := l.notices ++ [n] } fits]
      simp [Nat.add_assoc, Nat.add_comm 1]
    · have full : l.notices.length = 32 := by omega
      rw [joinNotice_full (Nat.le_of_eq full.symm), ih { l with overflow := true } h]
      simp [← full]

/-! ### The full reset (R1, R16) -/

theorem resetPins_eq (cause : ResetCause) (a b : Level) (p : Pins) :
    resetPins cause a b p =
      ⟨p.resetHeld && decide (cause ≠ .pin), p.powerAbsent && decide (cause ≠ .powerOn), a, b, p.restarts⟩ := by
  cases cause <;> rfl

/-- Every line is OFF at the level outside puts on it (R77). -/
theorem lookupD_resetLines {t : Table Line} (h : risingKeys t = true) (l : Nat) :
    lookupD (resetLines t) l Line.reset = ⟨(lookupD t l Line.reset).input, .off⟩ := by
  unfold resetLines
  rw [lookupD_filter_ne_default (risingKeys_mapTable h _), lookupD_mapTable _ _ rfl]

/-- Every trunk has its reset values but for the attention lines (R179). -/
theorem lookupD_resetTrunks {t : Table Trunk} (h : risingKeys t = true) (n : Nat) :
    lookupD (resetTrunks t) n Trunk.reset = { Trunk.reset with attention := (lookupD t n Trunk.reset).attention } := by
  unfold resetTrunks
  rw [lookupD_filter_ne_default (risingKeys_mapTable h _), lookupD_mapTable _ _ rfl]

/-- No trunk is told to decide, whatever the table was. -/
theorem wake_resetTrunks (t : Table Trunk) (n : Nat) : (lookupD (resetTrunks t) n Trunk.reset).wake = false := by
  unfold lookupD
  cases h : lookup (resetTrunks t) n with
  | none => rfl
  | some x =>
    obtain ⟨⟨k, y⟩, -, hy⟩ := List.mem_map.mp (List.mem_filter.mp (mem_of_lookup h)).1
    cases hy
    rfl

/-- A full reset, its link left to `fullReset_link`. -/
theorem fullReset_eq (cause : ResetCause) (a b : Level) (s : State) :
    fullReset cause a b s =
      { State.reset with
        pending := s.pending
        pins := resetPins cause a b s.pins
        link := (fullReset cause a b s).link
        sense := ⟨resetLines s.sense.lines, [], [], []⟩
        trunks := resetTrunks s.trunks } := by
  unfold fullReset
  rw [sendReady_eq]

/-- READY is on the line, or waits while the pin is held or power is absent (R16). -/
theorem fullReset_link (cause : ResetCause) (a b : Level) (s : State) :
    (fullReset cause a b s).link =
      let p := resetPins cause a b s.pins
      let waits := p.resetHeld || p.powerAbsent
      { Link.reset (bitRate a b) cause with
        line := if waits then .idle else .notice (.ready cause)
        notices := if waits then [.ready cause] else [] } := by
  unfold fullReset
  dsimp only
  cases waits : (resetPins cause a b s.pins).resetHeld || (resetPins cause a b s.pins).powerAbsent with
  | false => rw [sendReady_of_heard (by exact waits)]; rfl
  | true => rw [sendReady_of_silenced (by exact waits)]; rfl

theorem fullReset_settled (cause : ResetCause) (a b : Level) (s : State) : Settled (fullReset cause a b s) := by
  rw [settled_iff, fullReset_eq]
  exact ⟨rfl, fun n _ => wake_resetTrunks s.trunks n⟩

/-- Settles O3: the fields of a full reset one by one, the tables of lines and trunks by what a lookup finds. -/
theorem fullResetValues : Obligations.FullResetValues := by
  unfold Obligations.FullResetValues
  refine ⟨fun cause a b s hlines htrunks => ?_, rfl⟩
  refine ⟨_, congrArg Host.Outcome.next (fullReset_eq cause a b s), ?link, resetPins_eq cause a b s.pins, rfl, rfl, rfl,
    rfl, rfl, rfl, rfl, rfl, rfl, rfl, rfl, fun l => lookupD_resetLines hlines l, rfl, rfl, rfl,
    fun n => lookupD_resetTrunks htrunks n, rfl⟩
  case link =>
    dsimp only
    rw [fullReset_link, resetPins_eq]
    cases a <;> cases b <;> rfl

/-! ### A frame leaves the line (R12, R13, R17) -/

theorem frameLeaves_idle {s : State} (hl : s.link.line = .idle) : frameLeaves s = s := by
  simp [frameLeaves, hl]

/-- The link as a notice leaves it, before the next frame begins. -/
def noticeSent (n : Notice) (l : Link) : Link :=
  { l with
    line := .idle
    lastSent := .notice
    readySent := match n with
      | .ready _ => true
      | _ => l.readySent }

theorem frameLeaves_notice {s : State} {n : Notice} (hl : s.link.line = .notice n) :
    frameLeaves s = arbitrate (modifyLink (noticeSent n) s) := by
  unfold frameLeaves
  rw [hl]
  cases n <;> rfl

/-- The link as a reply leaves it, before the next frame begins: the notices behind it have joined, up to 32 (R12). -/
def replySent (after : List Notice) (rest : List Service) (l : Link) : Link :=
  { l with
    line := .idle
    lastSent := .reply
    service := rest
    notices := (l.notices ++ after).take 32
    overflow := l.overflow || decide (32 < l.notices.length + after.length) }

theorem frameLeaves_reply {s : State} {d : Service} {rest : List Service} (hl : s.link.line = .reply)
    (hs : s.link.service = d :: rest) (hd : d.resetAfter = false) (hn : s.link.notices.length ≤ 32) :
    frameLeaves s = arbitrate (modifyLink (replySent d.after rest) s) := by
  have joined := foldl_joinNotice d.after { s.link with line := .idle, lastSent := .reply, service := rest } hn
  simp [frameLeaves, hl, hs, hd, modifyLink, joined, replySent]

theorem frameLeaves_restart {s : State} {d : Service} {rest : List Service} (hl : s.link.line = .reply)
    (hs : s.link.service = d :: rest) (hd : d.resetAfter = true) : frameLeaves s = restartReset s := by
  simp [frameLeaves, hl, hs, hd]

theorem Settled.frameLeaves {s : State} (h : Settled s) : Settled (frameLeaves s) := by
  unfold Machine.frameLeaves
  split
  · exact h
  · exact (h.modifyLink _).arbitrate
  · split
    · exact (h.modifyLink _).arbitrate
    · split
      · exact fullReset_settled ..
      · exact (h.modifyLink _).arbitrate

theorem exec_frameTransmitted {s : State} (h : Settled s) : exec .frameTransmitted s = .next (frameLeaves s) :=
  event_quiet h.frameLeaves

/-- A part that may transmit begins the next frame behind a notice. -/
theorem exec_frameTransmitted_notice {s : State} {n : Notice} (h : Settled s) (heard : silenced s = false)
    (hl : s.link.line = .notice n) :
    exec .frameTransmitted s = .next { s with link := nextFrame (noticeSent n s.link) } := by
  rw [exec_frameTransmitted h, frameLeaves_notice hl, arbitrate_modifyLink heard]

/-- A part that may transmit begins the next frame behind a reply. -/
theorem exec_frameTransmitted_reply {s : State} {d : Service} {rest : List Service} (h : Settled s)
    (heard : silenced s = false) (hl : s.link.line = .reply) (hs : s.link.service = d :: rest) (hd : d.resetAfter = false)
    (hn : s.link.notices.length ≤ 32) :
    exec .frameTransmitted s = .next { s with link := nextFrame (replySent d.after rest s.link) } := by
  rw [exec_frameTransmitted h, frameLeaves_reply hl hs hd hn, arbitrate_modifyLink heard]

/-- Settles O8: what was on the line decides what leaves it, and the arbitration what follows. -/
theorem frameLeavesTheLine : Obligations.FrameLeavesTheLine := by
  unfold Obligations.FrameLeavesTheLine
  intro s h
  refine ⟨fun hl => ?idle, fun n heard hl => ?notice, fun d rest heard hl hs hd hn => ?reply,
    fun d rest hl hs hd => ?restart, fun tag ht => request_quiet ht h⟩
  case idle => rw [exec_frameTransmitted h, frameLeaves_idle hl]
  case notice =>
    have sent := exec_frameTransmitted_notice h heard hl
    refine ⟨fun hs => ?_, fun hs hn => ?_, fun hs m rest hn => ?_⟩
    · rw [sent, nextFrame_reply (l := noticeSent n s.link) rfl hs (.inr (by simp [noticeSent]))]
      rfl
    · rw [sent, nextFrame_nothing (l := noticeSent n s.link) hs hn]
      rfl
    · rw [sent, nextFrame_notice (l := noticeSent n s.link) rfl hn (.inl hs)]
      rfl
  case reply =>
    have sent := exec_frameTransmitted_reply h heard hl hs hd hn
    refine ⟨fun hj => ?_, fun m ms hj => ?_⟩
    · by_cases hr : rest = []
      · rw [sent, nextFrame_nothing (l := replySent d.after rest s.link) hr hj, replySent, hj, if_pos hr]
      · rw [sent, nextFrame_reply (l := replySent d.after rest s.link) rfl hr (.inl hj), replySent, hj, if_neg hr]
    · rw [sent, nextFrame_notice (l := replySent d.after rest s.link) rfl hj (.inr rfl)]
      rfl
  case restart =>
    rw [exec_frameTransmitted h, frameLeaves_restart hl hs hd]
    rfl

/-! ### The receiver (R4–R7, R16) -/

theorem advance_hunt_other {r : Receiver} {b : Byte} (hr : r.state = .hunt) (hb : b ≠ 0xA5) : advance r b = r := by
  simp only [advance, hr]
  exact if_neg hb

theorem advance_hunt_sync {r : Receiver} (hr : r.state = .hunt) : advance r 0xA5 = ⟨.length, [], 2⟩ := by
  simp [advance, hr]

theorem advance_length_first {r : Receiver} (b : Byte) (hr : r.state = .length) (hh : r.held = []) :
    advance r b = ⟨.length, [b], 1⟩ := by
  simp [advance, hr, hh]

theorem advance_length_second {r : Receiver} {hi : Byte} (b : Byte) (hr : r.state = .length) (hh : r.held = [hi]) :
    advance r b =
      if 2 ≤ hi.toNat * 256 + b.toNat ∧ hi.toNat * 256 + b.toNat ≤ 1024 then
        ⟨.body, [hi, b], hi.toNat * 256 + b.toNat⟩
      else ⟨.hunt, [], 0⟩ := by
  simp only [advance, hr, hh]
  rfl

theorem advance_body {r : Receiver} {n : Nat} (b : Byte) (hr : r.state = .body) (he : r.expected = n + 2) :
    advance r b = ⟨.body, r.held ++ [b], n + 1⟩ := by
  simp [advance, hr, he]

theorem advance_body_last {r : Receiver} (b : Byte) (hr : r.state = .body) (he : r.expected = 1) :
    advance r b = ⟨.check, r.held ++ [b], 2⟩ := by
  simp [advance, hr, he]

theorem advance_check {r : Receiver} (b : Byte) (hr : r.state = .check) (he : r.expected = 2) :
    advance r b = ⟨.check, r.held ++ [b], 1⟩ := by
  simp [advance, hr, he]

/-- Only CHECK's last byte completes a frame. -/
theorem completes_eq_false {r : Receiver} (h : r.state ≠ .check ∨ 1 < r.expected) : completes r = false := by
  simp only [completes, Bool.and_eq_false_iff, beq_eq_false_iff_ne, decide_eq_false_iff_not, Nat.not_le]
  exact h

/-- Reception in a part that hears the line is the end of a reception event. -/
theorem exec_byteReceived_heard {s : State} (b : Byte) (heard : silenced s = false) :
    exec (.byteReceived b) s = .next (flush (receiveByte b s)) := by
  simp [exec, execByteReceived, event, heard]

/-- A byte that completes no frame moves the receiver alone. -/
theorem exec_byteReceived_advance {s : State} {r : Receiver} (b : Byte) (h : Settled s) (heard : silenced s = false)
    (hc : s.link.receiver.state ≠ .check ∨ 1 < s.link.receiver.expected) (hr : advance s.link.receiver b = r) :
    exec (.byteReceived b) s = .next { s with link := { s.link with receiver := r } } := by
  have moved : receiveByte b s = { s with link := { s.link with receiver := r } } := by
    simp [receiveByte, completes_eq_false hc, hr, modifyLink]
  have quiet : Settled { s with link := { s.link with receiver := r } } := h.congr rfl rfl
  rw [exec_byteReceived_heard b heard, moved, quiet.flush]

/-- An event that a silenced part ignores (R16). -/
theorem event_of_silenced {s : State} (f : State → State) (h : Settled s) (silent : silenced s = true) :
    event (fun x => if silenced x then x else f x) s = .next s := by
  simp [event, silent, h.flush]

/-- An abandoned frame leaves the receiver hunting (R5). -/
theorem event_abandonFrame {s : State} (h : Settled s) (heard : silenced s = false) :
    event (fun x => if silenced x then x else abandonFrame x) s =
      .next { s with link := { s.link with receiver := ⟨.hunt, [], 0⟩ } } := by
  have quiet : Settled (abandonFrame s) := h.modifyLink _
  simp only [event, heard, Bool.false_eq_true, if_false, quiet.flush]
  rfl

/-- Settles O9, row by row of the receiver's table. -/
theorem receiverAdvances : Obligations.ReceiverAdvances := by
  unfold Obligations.ReceiverAdvances
  intro s h
  refine ⟨fun heard => ?heard, fun silent => ?silent, event_quiet (h.congr rfl rfl), event_quiet (h.congr rfl rfl)⟩
  case heard =>
    have outside {x : RxState} (hr : s.link.receiver.state = x) (hx : x ≠ .check) :
        s.link.receiver.state ≠ .check ∨ 1 < s.link.receiver.expected := .inl (hr ▸ hx)
    refine ⟨fun b hr hb => ?_, fun hr => ?_, fun b hr hh => ?_, fun hi b hr hh => ?_, fun b n hr he => ?_,
      fun b hr he => ?_, fun b hr he => ?_, event_abandonFrame h heard, event_abandonFrame h heard⟩
    · exact exec_byteReceived_advance b h heard (outside hr (by decide)) (advance_hunt_other hr hb)
    · exact exec_byteReceived_advance _ h heard (outside hr (by decide)) (advance_hunt_sync hr)
    · exact exec_byteReceived_advance b h heard (outside hr (by decide)) (advance_length_first b hr hh)
    · exact exec_byteReceived_advance b h heard (outside hr (by decide)) (advance_length_second b hr hh)
    · exact exec_byteReceived_advance b h heard (outside hr (by decide)) (advance_body b hr he)
    · exact exec_byteReceived_advance b h heard (outside hr (by decide)) (advance_body_last b hr he)
    · exact exec_byteReceived_advance b h heard (.inr (by omega)) (advance_check b hr he)
  case silent =>
    exact ⟨fun b => event_of_silenced _ h silent, event_of_silenced _ h silent, event_of_silenced _ h silent⟩

/-! ### The frame judged (R6, R7) -/

/-- The two CHECK bytes are the last held one and the last received (R6). -/
theorem judgeFrame_append (covered : List Byte) (c1 c0 : Byte) (s : State) :
    judgeFrame (covered ++ [c1]) c0 s =
      if digest covered = readDigest c1 c0 then offer (frameOf covered) s else s := by
  simp [judgeFrame]

theorem offer_room {f : Frame} {s : State} (h : s.link.queue.length < 4) :
    offer f s = modifyLink (fun l => { l with queue := l.queue ++ [f] }) s := if_pos h

theorem offer_full {f : Frame} {s : State} (h : 4 ≤ s.link.queue.length) : offer f s = produce (.linkDropped f.tag) s :=
  if_neg (Nat.not_lt.mpr h)

/-- One notice produced in a quiet state joins as the command ends (R12). -/
theorem flush_produce_of_settled {s : State} (h : Settled s) (n : Notice) : flush (produce n s) = eventNotice n s := by
  have trunksQuiet : settleTrunks (produce n s) = produce n s := settleTrunks_quiet (settled_iff.mp h).2
  have cleared : { produce n s with outbox := [] } = s := by
    simp only [produce]
    rw [← h.1]
  have produced : (produce n s).outbox = [n] := by simp [h.1]
  simp only [flush, trunksQuiet, produced, cleared, List.foldl_cons, List.foldl_nil]

/-- CHECK's last byte: the receiver hunts again, and the frame is judged (R4, R6). -/
theorem receiveByte_completes {s : State} {covered : List Byte} {c1 : Byte} (c0 : Byte)
    (hr : s.link.receiver = ⟨.check, covered ++ [c1], 1⟩) :
    receiveByte c0 s =
      if digest covered = readDigest c1 c0 then offer (frameOf covered) (abandonFrame s) else abandonFrame s := by
  rw [← judgeFrame_append]
  simp only [receiveByte, hr]
  rfl

/-- Settles O10: the digest decides whether the frame is offered, the queue's length what the offer does. -/
theorem completeFrameIsJudged : Obligations.CompleteFrameIsJudged := by
  unfold Obligations.CompleteFrameIsJudged
  intro s hi lo kind tag payload c1 c0 h heard hr
  have quiet : Settled (abandonFrame s) := h.modifyLink _
  refine ⟨fun hd => ?_, fun hd hq => ?_, fun hd hq => ?_⟩ <;>
    rw [exec_byteReceived_heard c0 heard, receiveByte_completes c0 hr]
  · rw [if_neg hd, quiet.flush]
    rfl
  · rw [if_pos hd, offer_room (s := abandonFrame s) hq, (quiet.modifyLink _).flush]
    rfl
  · rw [if_pos hd, offer_full (s := abandonFrame s) hq, flush_produce_of_settled quiet]
    rfl

/-! ### IDENTIFY (R14) -/

theorem identifyPayload_eq :
    identifyPayload = [0x4B, 0x19, 0x1A, 0xB8, 0x41] ++
      [12, 40, 32, 96, 1024, 16, 255, 2048, 256, 65536, 768, 4, 30, 120, 8, 6, 8, 4, 24, 4, 1024, 32].flatMap u32 := by
  decide

/-- Settles O5: the owner reads no state and leaves it as it is. -/
theorem identifyReports : Obligations.IdentifyReports := by
  unfold Obligations.IdentifyReports
  intro tag s ht h
  rw [← identifyPayload_eq]
  exact request_quiet ht h

end Sys2Proof.Machine
end

section
/-! SUPPORT. The Venue Clock and the Timetable: the statements of 02_venue_time_and_the_timetable.md on the payload of
CLOCK_READ, the end of an interval and ADD. -/

namespace Sys2Proof.Machine

/-! ### CLOCK_READ (R22) -/

/-- The limit flag's byte (R20, R22). -/
theorem flag_atLimit (c : Clock) :
    flag (atLimit c) = [if c.day = 65535 ∧ c.minute = 1439 ∧ c.second = 59 then 1 else 0] := by
  by_cases h : c.day = 65535 ∧ c.minute = 1439 ∧ c.second = 59
  · simp [flag, atLimit, h]
  · have below : atLimit c = false := by simpa [atLimit, and_assoc] using h
    simp [flag, below, h]

/-- A SET clock's payload (R22). -/
theorem clockPayload_set {s : State} (h : s.clock.isSet = true) :
    clockPayload s =
      [1] ++ u16 s.clock.day ++ u16 s.clock.minute ++ u8 s.clock.second ++ u32 (s.clock.day * 1440 + s.clock.minute) ++
        [if s.clock.day = 65535 ∧ s.clock.minute = 1439 ∧ s.clock.second = 59 then 1 else 0] := by
  rw [← flag_atLimit]
  simp [clockPayload, h, readingBytes, flag, venueMinute, Config.dayMinutes]

/-- An UNSET clock's payload (R22). -/
theorem clockPayload_unset {s : State} (h : s.clock.isSet = false) :
    clockPayload s = [0, 0, 0, 0, 0, 0, 0, 0, 0, 0, 0] := by
  simp [clockPayload, h, flag, u8, u16, u32]

/-- Settles O18: the owner reads the clock, SET or UNSET, and leaves the state as it is. -/
theorem clockReadReports : Obligations.ClockReadReports := by
  unfold Obligations.ClockReadReports
  intro tag s ht hs
  have read : exec (.clockRead tag) s = .next (answered tag (ok (clockPayload s)) [] s) := request_quiet ht hs
  cases set : s.clock.isSet with
  | true => rw [read, clockPayload_set set, if_pos rfl]
  | false => rw [read, clockPayload_unset set, if_neg Bool.false_ne_true]

/-! ### A sign outside trunks 1 to 4

`Settled` bounds the wake marks of trunks 1 to 4 and nothing else. In a settled state with a sign and its panel record on
trunk 5, a resolution that changes the sign's composition tells trunk 5 to decide (R132); the end of the command lets
trunks 1 to 4 decide, so the mark stays, and `RecordsKept`, which lets no trunk's mark move, fails. SIGN_DEFINE, the one
command that makes a sign, refuses trunk 5 (R97); the statements lack the premise that signs stand on trunks 1 to 4. -/

/-- What the triggers of R102 leave alone covers every trunk's wake mark. -/
theorem UpstreamKept.wake_eq {s t : State} (h : UpstreamKept s t) (n : Nat) : (trunkOf t n).wake = (trunkOf s n).wake := by
  obtain ⟨_, ⟨_, _, _, trunks⟩, _⟩ := h
  obtain ⟨asked, _⟩ := trunks n
  rw [asked]

@[simp] theorem trunkOf_answered (tag : Byte) (a : Answer) (after : List Notice) (s : State) (n : Nat) :
    trunkOf (answered tag a after s) n = trunkOf s n := by
  rw [answered_eq]
  rfl

/-- Room definition 1 of one segment, a door sign of that segment at position 1 of trunk 5, and its PRESENT panel. -/
def signOnTrunk5 : State :=
  let sign : Sign := ⟨.door 1 false, none, none, .empty .dayList, []⟩
  let panel : Panel := ⟨.present, none, none, .none, 8, 0, List.replicate 8 ⟨.free, 0⟩, none⟩
  { State.reset with
    layout :=
      { State.reset.layout with
        halls := [(1, ⟨[1], 1, [⟨[1], some 1⟩], false⟩)]
        rooms := [(1, ⟨1, [1], 1⟩)] }
    resolver := { State.reset.resolver with signs := [(signKey 5 1, sign)] }
    dispatcher := { State.reset.dispatcher with panels := [(signKey 5 1, panel)] } }

theorem signOnTrunk5_settled : Settled signOnTrunk5 := ⟨rfl, by decide⟩

/-- One second before a turn of the minute. -/
def signOnTrunk5AtTurn : State := { signOnTrunk5 with clock := ⟨true, 0, 0, 59, some 1000⟩ }

/-- The minute event resolves the sign and leaves trunk 5 told to decide. -/
theorem turn_wakes_trunk5 :
    ∃ t, exec .clockIntervalEnd signOnTrunk5AtTurn = .next t ∧ (trunkOf t 5).wake = true := ⟨_, rfl, by decide⟩

/-- The commit of an ADD resolves the sign and leaves trunk 5 told to decide. -/
theorem add_wakes_trunk5 :
    ∃ t, exec (.ttApply 1 [.add 1 1 0 1 0 0 0]) signOnTrunk5 = .next t ∧ (trunkOf t 5).wake = true :=
  ⟨_, rfl, by decide⟩

/-- Refutes O17: a settled state may hold a sign on trunk 5, whose wake mark the turn of the minute moves. -/
theorem not_intervalEndAdvancesTheClock : ¬ Obligations.IntervalEndAdvancesTheClock := by
  unfold Obligations.IntervalEndAdvancesTheClock
  intro holds
  have quiet : Settled signOnTrunk5AtTurn := signOnTrunk5_settled.congr rfl rfl
  obtain ⟨_, _, turn⟩ := (holds _ quiet).2 1000 rfl
  obtain ⟨_, t, left, _, _, kept, _⟩ := turn rfl (.inl (by decide))
  obtain ⟨u, reached, told⟩ := turn_wakes_trunk5
  cases left.symm.trans reached
  have unmoved : (trunkOf t 5).wake = false := kept.wake_eq 5
  exact Bool.false_ne_true (unmoved.symm.trans told)

/-- Refutes O20: a settled state may hold a sign on trunk 5, whose wake mark the commit of an ADD moves. -/
theorem not_ttApplyAdds : ¬ Obligations.TtApplyAdds := by
  unfold Obligations.TtApplyAdds
  intro holds
  obtain ⟨after, u, left, _, kept, _⟩ := holds 1 1 1 0 1 0 0 0 signOnTrunk5 (by decide) signOnTrunk5_settled
    (by decide) (by decide) (by decide) (by decide) rfl (by decide) (by decide) (by decide) (by decide)
    (by simp [signOnTrunk5, State.reset, Timetable.reset]) (.inl rfl) (.inl rfl)
    (by simp [signOnTrunk5, State.reset, Timetable.reset]) (by decide)
  obtain ⟨t, reached, told⟩ := add_wakes_trunk5
  cases left.symm.trans reached
  have unmoved : (trunkOf u 5).wake = false := kept.wake_eq 5
  rw [trunkOf_answered] at told
  exact Bool.false_ne_true (unmoved.symm.trans told)

end Sys2Proof.Machine
end

section
/-! SUPPORT. The Layout Unit's walls: the statement of 03_halls_walls_and_room_formation.md on how a wall settles. -/

namespace Sys2Proof.Machine

/-! ### A wall settles beside a sign outside trunks 1 to 4

The gap is the one that refutes the statements of the clock's turn and of ADD: `Settled` bounds the wake marks of trunks 1
to 4 alone, and a settled state may hold a sign on trunk 5. The wall's opening joins the sign's segment to its neighbour
(R50, R59), the sign is resolved to another name (R60, R102, R113), and trunk 5 is told to decide (R132). -/

/-- `signOnTrunk5` with a second segment in hall 1, behind wall 1, MANUAL and CLOSED; the sign, resolved, shows the name of
room definition 1. -/
def signOnTrunk5BesideWall : State :=
  let sign : Sign := ⟨.door 1 false, none, none, .empty .dayList, []⟩
  let before : State :=
    { signOnTrunk5 with
      layout :=
        { signOnTrunk5.layout with
          halls := [(1, ⟨[1, 2], 2, [⟨[1], some 1⟩, ⟨[2], none⟩], false⟩)]
          walls := [(1, ⟨1, 1, 2, .manual, .closed⟩)] } }
  setSign (signKey 5 1) (resolvedSign before sign) before

theorem signOnTrunk5BesideWall_settled : Settled signOnTrunk5BesideWall := signOnTrunk5_settled.congr rfl rfl

/-- WALL_SET resolves the sign and leaves trunk 5 told to decide. -/
theorem wallSet_wakes_trunk5 :
    ∃ t, exec (.wallSet 1 1 1) signOnTrunk5BesideWall = .next t ∧ (trunkOf t 5).wake = true := ⟨_, rfl, by decide⟩

/-- Refutes O31: a settled state may hold a sign on trunk 5, whose wake mark the opening of a wall moves. -/
theorem not_wallsSettle : ¬ Obligations.WallsSettle := by
  unfold Obligations.WallsSettle
  intro holds
  obtain ⟨opens, _⟩ := (holds _ signOnTrunk5BesideWall_settled).2 1 ⟨1, 1, 2, .manual, .closed⟩ (by decide) (by decide) rfl
  obtain ⟨_, changes⟩ := opens 1 1 .opened (by decide) rfl (.inl ⟨rfl, rfl⟩)
  obtain ⟨after, u, left, _, kept⟩ := changes (by decide)
  obtain ⟨t, reached, told⟩ := wallSet_wakes_trunk5
  cases left.symm.trans reached
  have unmoved : (trunkOf u 5).wake = false := kept.wake_eq 5
  rw [trunkOf_answered] at told
  exact Bool.false_ne_true (unmoved.symm.trans told)

end Sys2Proof.Machine
end

section
/-! SUPPORT. The Sense Unit: the statement of 04_sense_lines.md on what the end of a line's candidate does. -/

namespace Sys2Proof.Machine

/-! ### A door contact beside a sign outside trunks 1 to 4

The gap is the one that refutes the statements of the clock's turn, of ADD and of the walls: `Settled` bounds the wake marks
of trunks 1 to 4 alone, and a settled state may hold a sign on trunk 5. The contact's level makes the hall's doors-closed
state ACTIVE (R68, R71), the sign of a session UNDERWAY is resolved to the composition with the doors-closed plate (R103,
R114), and trunk 5 is told to decide (R132). -/

/-- `signOnTrunk5` at the start of session 1 in room definition 1, the sign resolved; line 1 is the door contact of hall 1,
and the level it is about to take is its active one. -/
def signOnTrunk5ByDoorContact : State :=
  let sign : Sign := ⟨.door 1 false, none, none, .empty .dayList, []⟩
  let before : State :=
    { signOnTrunk5 with
      clock := ⟨true, 0, 0, 0, some 1000⟩
      table := { signOnTrunk5.table with entries := [⟨.session 1 false, 1, 0, 60, 0, 0, false⟩] }
      sense := { signOnTrunk5.sense with
        lines := [(1, ⟨.low, .contact ⟨some .high, some (.low, 50)⟩ .low .rise 1 false false⟩)] }
      plates := { signOnTrunk5.plates with settings := { signOnTrunk5.plates.settings with doorsClosed := 7 } } }
  setSign (signKey 5 1) (resolvedSign before sign) before

theorem signOnTrunk5ByDoorContact_settled : Settled signOnTrunk5ByDoorContact := signOnTrunk5_settled.congr rfl rfl

/-- What resolutions and the steps of idle trunks leave alone covers every trunk's wake mark. -/
theorem RecordsKept.wake_eq {s t : State} (h : RecordsKept s t) (n : Nat) : (trunkOf t n).wake = (trunkOf s n).wake := by
  obtain ⟨_, _, _, trunks⟩ := h
  obtain ⟨asked, _⟩ := trunks n
  rw [asked]

/-- FILTER_EXPIRY resolves the sign and leaves trunk 5 told to decide. -/
theorem filterExpiry_wakes_trunk5 :
    ∃ t, exec (.filterExpiry 1) signOnTrunk5ByDoorContact = .next t ∧ (trunkOf t 5).wake = true := ⟨_, rfl, by decide⟩

/-- Refutes O36: a settled state may hold a sign on trunk 5, whose wake mark the closing of a hall's doors moves. -/
theorem not_filterExpiryTakesTheLevel : ¬ Obligations.FilterExpiryTakesTheLevel := by
  unfold Obligations.FilterExpiryTakesTheLevel
  intro holds
  obtain ⟨onContact, _⟩ := holds 1 _ signOnTrunk5ByDoorContact_settled (by decide) (by decide)
  obtain ⟨t, left, _, _, _, _, _, _, _, kept, _⟩ := onContact _ _ _ _ _ _ _ _ rfl rfl
  obtain ⟨u, reached, told⟩ := filterExpiry_wakes_trunk5
  cases left.symm.trans reached
  have unmoved : (trunkOf t 5).wake = false := kept.wake_eq 5
  exact Bool.false_ne_true (unmoved.symm.trans told)

end Sys2Proof.Machine
end

section
/-! SUPPORT. The Plate Store: the statement of 05_the_plate_store.md on the closing and the deletion of plates. -/

namespace Sys2Proof.Machine

/-! ### A panel record listed twice

Tables are plain data, and `Settled` does not ask that the panel records' numbers rise. A lookup finds the first record of a
number, while a trunk's dispatch queue takes every listed one (R129). Where a number is listed twice, the deletion of a plate
frees a slot of the first record, the trunk is told to decide (R87, R132, R151) and takes its step from the second, queued
record, which is then written in place of the first: fields that the statement keeps in every panel record (its link, shown
composition, credit) are those of another record. No command lists a number twice; the statement has `risingKeys` of the
panels as a premise of the wake marks alone, and lacks it for the records. -/

/-- A stored plate of one byte that nothing refers to and no run reads. -/
def idlePlate : Plate := ⟨.ready, 1, [1], 1, 0, 0, 0, 0, 0⟩

/-- The record a lookup finds: the panel shows the blank composition and holds plate 1 in slot 1. -/
def panelHoldingPlate : Panel :=
  ⟨.present, some (.empty .blank), none, .none, 8, 0, ⟨.loaded 1 1, 0⟩ :: List.replicate 7 ⟨.free, 0⟩, none⟩

/-- The second record of the same number: a panel that shows nothing, and waits to be shown the blank composition. -/
def queuedPanel : Panel := ⟨.present, none, none, .none, 8, 0, List.replicate 8 ⟨.free, 0⟩, some ⟨true, 0, 0⟩⟩

/-- A sign at position 1 of trunk 1, which is RUNNING and idle, its panel's number listed with two records. -/
def panelListedTwice : State :=
  { State.reset with
    plates := { State.reset.plates with plates := [(1, idlePlate)], freeCount := 2047 }
    resolver := { State.reset.resolver with signs := [(signKey 1 1, ⟨.corridor [], none, none, .empty .blank, []⟩)] }
    dispatcher := ⟨[(signKey 1 1, panelHoldingPlate), (signKey 1 1, queuedPanel)], 1⟩
    trunks := [(1, { Trunk.reset with state := .running, chainCount := 1, walkPosition := 1 })] }

theorem panelListedTwice_settled : Settled panelListedTwice := ⟨rfl, by decide⟩

@[simp] theorem panelAt_answered (tag : Byte) (a : Answer) (after : List Notice) (s : State) (k : Nat) :
    panelAt (answered tag a after s) k = panelAt s k := by
  rw [answered_eq]
  rfl

/-- The deletion of plate 1 ends in the trunk's step, and a lookup finds a panel that shows nothing. -/
theorem plateDelete_loses_shown :
    ∃ t, exec (.plateDelete 1 1) panelListedTwice = .next t ∧
      (panelAt t (signKey 1 1)).map (fun q => q.shown) = some none := ⟨_, rfl, by decide⟩

/-- Refutes O42: a settled state may list a panel's number twice, and the step taken after a deletion writes the second
record in place of the first, whose shown composition is lost. -/
theorem not_platesCloseAndGo : ¬ Obligations.PlatesCloseAndGo := by
  unfold Obligations.PlatesCloseAndGo
  intro holds
  obtain ⟨_, _, clauses⟩ := holds 1 1 panelListedTwice (by decide) panelListedTwice_settled
  obtain ⟨_, _, _, deletesReady, _⟩ := clauses idlePlate (by decide) (by decide) rfl
  obtain ⟨v, u, left, _, _, _, _, _, _, _, _, kept, _⟩ := deletesReady rfl rfl
  obtain ⟨t, reached, lost⟩ := plateDelete_loses_shown
  cases left.symm.trans reached
  have unmoved : (panelAt u (signKey 1 1)).map (fun q => q.shown) =
      (panelAt panelListedTwice (signKey 1 1)).map fun q => q.shown := by
    simpa only [Option.map_map, Function.comp_def] using
      congrArg (Option.map fun fields => fields.2.1) (kept (signKey 1 1))
  rw [panelAt_answered, unmoved] at lost
  exact absurd lost (by decide)

end Sys2Proof.Machine
end

section
/-! SUPPORT. The Health Monitor's requests: the statement of 09_health_supervision.md on HEALTH_ARM, HEALTH_CLEAR,
HEALTH_SELECT and HEALTH_WINDOW. -/

namespace Sys2Proof.Machine

variable {s : State}

/-! ### Flags as membership -/

theorem isLive_iff {o : HealthObject} {c : Condition} : isLive s o c = true ↔ ⟨o, c⟩ ∈ s.health.live := by simp [isLive]

theorem isHeld_iff {o : HealthObject} {c : Condition} : isHeld s o c = true ↔ ⟨o, c⟩ ∈ s.health.held := by simp [isHeld]

theorem mem_allConditions (c : Condition) : c ∈ allConditions := by cases c <;> decide

/-! ### HEALTH_ARM (R190) -/

theorem classOf_eq_none {code : Nat} (h : code ∉ [1, 2, 3]) : classOf code = none := by
  simp only [List.mem_cons, List.not_mem_nil, or_false, not_or] at h
  obtain ⟨h1, h2, h3⟩ := h
  simp [classOf, h1, h2, h3]

@[simp] theorem classState_setClassState (c : HealthClass) (v : ClassState) (s : State) :
    classState (setClassState c v s) c = v := by
  cases c <;> rfl

@[simp] theorem setClassState_outbox (c : HealthClass) (v : ClassState) (s : State) :
    (setClassState c v s).outbox = s.outbox := by
  cases c <;> rfl

@[simp] theorem setClassState_trunks (c : HealthClass) (v : ClassState) (s : State) :
    (setClassState c v s).trunks = s.trunks := by
  cases c <;> rfl

/-- Grace counts 30 seconds from the request (R190). -/
theorem graceSeconds_start (now : Nat) : graceSeconds now (.grace (now + 30000)) = 30 := by
  have left : now + 30000 - now = 30000 := by omega
  rw [graceSeconds, left]
  rfl

/-- A DISARMED class enters GRACE (R190). -/
theorem handleHealthArm_disarmed {code : Nat} {c : HealthClass} (hc : classOf code = some c)
    (off : classState s c = .disarmed) :
    handleHealthArm code s = (setClassState c (.grace (s.now + 30000)) s, ok (u8 code ++ [1, 30])) := by
  simp only [handleHealthArm, hc, off, if_pos, classState_setClassState, Config.graceTime, graceSeconds_start]
  simp [classStateCode, u8]

/-- A class that is not DISARMED is reported (R190). -/
theorem handleHealthArm_started {code : Nat} {c : HealthClass} (hc : classOf code = some c)
    (on : classState s c ≠ .disarmed) :
    handleHealthArm code s =
      (s, ok (u8 code ++ u8 (classStateCode (classState s c)) ++ u8 (graceSeconds s.now (classState s c)))) := by
  simp only [handleHealthArm, hc, on, if_false]

/-! ### HEALTH_CLEAR (R194) -/

/-- A mask that lists nothing, or a condition the object does not have, is refused; so is an object that does not exist. -/
theorem handleHealthClear_refused {kind a b mask : Nat}
    (h : ∀ o, objectOf kind a b = some o → maskConditions mask = [] ∨ ∃ c ∈ maskConditions mask, c ∉ conditionsOf o) :
    handleHealthClear kind a b mask s = refused .outOfRange s := by
  unfold handleHealthClear
  cases ho : objectOf kind a b with
  | none => rfl
  | some o =>
    refine if_pos ?_
    rcases h o ho with nothing | ⟨c, listed, foreign⟩
    · simp [nothing]
    · have unfit : ((maskConditions mask).all fun c => (conditionsOf o).contains c) = false := by
        rw [List.all_eq_false]
        exact ⟨c, listed, by simpa using foreign⟩
      rw [unfit]
      simp

theorem handleHealthClear_clears {kind a b mask : Nat} {o : HealthObject} (ho : objectOf kind a b = some o)
    (lists : maskConditions mask ≠ []) (own : ∀ c ∈ maskConditions mask, c ∈ conditionsOf o) :
    handleHealthClear kind a b mask s =
      (clearHeld o ((maskConditions mask).filter fun c => isHeld s o c && !isLive s o c) s,
        ok (objectBytes o ++ u16 (maskOf ((maskConditions mask).filter fun c => isHeld s o c && !isLive s o c)) ++
          u16 (maskOf ((maskConditions mask).filter fun c => isHeld s o c && isLive s o c)))) := by
  simp only [handleHealthClear, ho]
  refine if_neg ?_
  simpa [List.isEmpty_iff, lists] using own

/-- The held flags of the conditions listed that are not live are cleared (R194). -/
theorem mem_held_clearHeld {o : HealthObject} {listed : List Condition} (k : CondKey) :
    k ∈ (clearHeld o (listed.filter fun c => isHeld s o c && !isLive s o c) s).health.held ↔
      k ∈ s.health.held ∧ ¬ (k.object = o ∧ k.condition ∈ listed ∧ k ∉ s.health.live) := by
  obtain ⟨object, condition⟩ := k
  simp only [clearHeld, recomputeSummary, List.mem_filter]
  refine and_congr_right fun held => ?_
  by_cases same : object = o
  · subst same
    by_cases asked : condition ∈ listed <;> simp [isHeld, isLive, held, asked]
  · simp [same]

/-! ### HEALTH_SELECT (R195) -/

theorem conditionOf_eq_none {code : Nat} (h : code = 0 ∨ 10 < code) : conditionOf code = none := by
  refine List.find?_eq_none.mpr fun c _ => ?_
  have bounds : 1 ≤ conditionCode c ∧ conditionCode c ≤ 10 := by cases c <;> decide
  have other : conditionCode c ≠ code := by omega
  simpa using other

theorem handleHealthSelect_refused {code v : Nat} (h : code = 0 ∨ 10 < code ∨ 1 < v) :
    handleHealthSelect code v s = refused .outOfRange s := by
  unfold handleHealthSelect
  cases hc : conditionOf code with
  | none => rfl
  | some c =>
    refine if_pos (Decidable.byContradiction fun low => ?_)
    have unlisted : code = 0 ∨ 10 < code := by omega
    rw [conditionOf_eq_none unlisted] at hc
    cases hc

/-- One kind's selection takes the value, and the others stay (R195). -/
theorem isSelected_setSelection (c x : Condition) (on : Bool) (s : State) :
    isSelected (setSelection c on s) x = if x = c then on else isSelected s x := by
  have member : (allConditions.filter fun y => if y = c then !on else s.health.deselected.contains y).contains x =
      if x = c then !on else s.health.deselected.contains x := by
    rw [Bool.eq_iff_iff, List.contains_iff_mem, List.mem_filter]
    simp [mem_allConditions]
  simp only [isSelected, setSelection, recomputeSummary, member]
  split <;> simp

/-! ### HEALTH_WINDOW (R188) -/

theorem handleHealthWindow_refused {kind w : Nat} (h : (kind ≠ 1 ∧ kind ≠ 2) ∨ w ∉ [4, 8, 16, 32]) :
    handleHealthWindow kind w s = refused .outOfRange s := by
  have invalid : (within 2 kind && isWindow w) = false := by
    rcases h with ⟨notWall, notLine⟩ | noLength
    · have outside : within 2 kind = false := by
        rw [Bool.eq_false_iff]
        simp only [within, ne_eq, Bool.and_eq_true, decide_eq_true_eq]
        omega
      rw [outside, Bool.false_and]
    · have outside : isWindow w = false := by simpa [isWindow] using noLength
      rw [outside, Bool.and_false]
  simp [handleHealthWindow, invalid]

/-- A setting rises at any time, and falls while its class is DISARMED (R188). -/
theorem handleHealthWindow_set {kind w : Nat} (hk : within 2 kind = true) (hw : isWindow w = true)
    (may : windowSetting s.health kind ≤ w ∨ classState s (windowClass kind) = .disarmed) :
    handleHealthWindow kind w s = (setWindow kind w s, ok (u8 kind ++ u8 w)) := by
  have kept : ¬ (w < windowSetting s.health kind ∧ classState s (windowClass kind) ≠ .disarmed) := by
    rintro ⟨below, armed⟩
    exact may.elim (Nat.not_le.mpr below) armed
  simp [handleHealthWindow, hk, hw, kept]

/-- Elsewhere the setting in force is the answer (R188). -/
theorem handleHealthWindow_adjusted {kind w : Nat} (hk : within 2 kind = true) (hw : isWindow w = true)
    (below : w < windowSetting s.health kind) (on : classState s (windowClass kind) ≠ .disarmed) :
    handleHealthWindow kind w s = (s, adjusted (u8 kind ++ u8 (windowSetting s.health kind))) := by
  simp [handleHealthWindow, hk, hw, below, on]

/-- A request whose handling is known and leaves the outbox and the trunks alone. -/
theorem request_handled {tag : Byte} {h : Handler} {u : State} {a : Answer} (ht : tag ≠ 0) (hs : Settled s)
    (hh : h s = (u, a)) (ho : u.outbox = s.outbox) (hn : u.trunks = s.trunks) :
    request tag h s = .next (answered tag a [] u) := by
  have calm : Settled (h s).1 := by
    rw [hh]
    exact hs.congr ho hn
  rw [request_quiet ht calm, hh]

/-- Settles O57: each request by its owner's cases, over the rule of `request_handled`. -/
theorem healthRequests : Obligations.HealthRequests := by
  unfold Obligations.HealthRequests
  intro tag s ht hs
  refine ⟨fun code h => ?_, fun kind a b mask h => ?_, fun code v h => ?_, fun kind w h => ?_, fun code c hc => ⟨?_, ?_⟩,
    fun kind a b mask o ho lists own => ?_, fun code c v hc hv => ?_, fun w hw => ?_⟩
  · exact request_refused ht hs (by simp [handleHealthArm, classOf_eq_none h])
  · exact request_refused ht hs (handleHealthClear_refused h)
  · exact request_refused ht hs (handleHealthSelect_refused h)
  · exact request_refused ht hs (handleHealthWindow_refused h)
  · intro off
    exact request_handled ht hs (handleHealthArm_disarmed hc off) (by simp) (by simp)
  · intro on
    exact request_handled ht hs (handleHealthArm_started hc on) rfl rfl
  · exact ⟨_, request_handled ht hs (handleHealthClear_clears ho lists own) rfl rfl, mem_held_clearHeld, rfl, rfl⟩
  · have low : ¬ 1 < v := by omega
    have chosen : handleHealthSelect code v s =
        (setSelection c (v == 1) s, ok (selectionBytes (setSelection c (v == 1) s).health)) := by
      simp [handleHealthSelect, hc, low]
    exact ⟨_, request_handled ht hs chosen rfl rfl, fun x => isSelected_setSelection c x _ s, rfl, rfl⟩
  · have length : isWindow w = true := by
      rcases hw with rfl | rfl | rfl | rfl <;> rfl
    exact ⟨fun may => request_handled ht hs (handleHealthWindow_set (kind := 1) rfl length may) rfl rfl,
      fun below on => request_handled ht hs (handleHealthWindow_adjusted (kind := 1) rfl length below on) rfl rfl,
      fun may => request_handled ht hs (handleHealthWindow_set (kind := 2) rfl length may) rfl rfl,
      fun below on => request_handled ht hs (handleHealthWindow_adjusted (kind := 2) rfl length below on) rfl rfl⟩

end Sys2Proof.Machine
end

section
/-! SUPPORT. The Health Monitor's condition records: what a flag's change does, once (R183, R191–R193); records judged one
after the other; and how an event ends that leaves the trunks alone. -/

namespace Sys2Proof.Machine

variable {s t u : State}

/-! ### Sets of condition records -/

theorem mem_insertBy {α : Type} (key : α → List Nat) (a x : α) (l : List α) : x ∈ insertBy key a l ↔ x = a ∨ x ∈ l := by
  induction l with
  | nil => simp [insertBy]
  | cons b l ih =>
    simp only [insertBy]
    split
    · simp
    · rw [List.mem_cons, ih, List.mem_cons, or_left_comm]

theorem mem_putKey (l : List CondKey) (k : CondKey) (b : Bool) (x : CondKey) :
    x ∈ putKey l k b ↔ if x = k then b = true else x ∈ l := by
  cases b with
  | false => by_cases h : x = k <;> simp [putKey, h]
  | true =>
    by_cases listed : k ∈ l
    · by_cases h : x = k <;> simp [putKey, listed, h]
    · by_cases h : x = k <;> simp [putKey, listed, mem_insertBy, h]

theorem mem_upTo (n i : Nat) : i ∈ upTo n ↔ 1 ≤ i ∧ i ≤ n := by
  simp only [upTo, List.mem_map, List.mem_range]
  constructor
  · rintro ⟨j, below, rfl⟩
    omega
  · rintro ⟨low, high⟩
    exact ⟨i - 1, by omega, by omega⟩

theorem nodup_upTo (n : Nat) : (upTo n).Nodup := by
  have distinct : ((List.range n).map fun i => i + 1).Pairwise (· ≠ ·) :=
    List.pairwise_map.mpr (List.nodup_range.imp fun other => by omega)
  exact distinct

/-! ### One flag (R183, R192, R193) -/

/-- A held flag is set: the record joins the held list, and its notice is produced if its condition is selected. -/
theorem setHeld_eq (o : HealthObject) (c : Condition) (s : State) :
    setHeld o c s =
      { s with
        outbox := s.outbox ++ if isSelected s c = true then [.health o c (isLive s o c) true (latestK s o c)] else []
        health :=
          { s.health with
            held := putKey s.health.held ⟨o, c⟩ true
            summary := summaryOf { s.health with held := putKey s.health.held ⟨o, c⟩ true } } } := by
  have set : (putKey s.health.held ⟨o, c⟩ true).contains ⟨o, c⟩ = true := by
    rw [List.contains_iff_mem, mem_putKey, if_pos rfl]
  unfold setHeld
  dsimp only
  by_cases sel : isSelected s c = true
  · rw [if_pos sel]
    exact (if_pos sel).trans (by simp only [produce, recomputeSummary, healthNotice, isHeld, set]; rfl)
  · rw [if_neg sel, List.append_nil]
    exact if_neg sel

theorem setLive_same {o : HealthObject} {c : Condition} {v : Bool} (h : isLive s o c = v) : setLive o c v s = s := if_pos h

/-- The state with a record's live flag set or cleared, and nothing else. -/
def liveMoved (o : HealthObject) (c : Condition) (v : Bool) (s : State) : State :=
  { s with health := { s.health with live := putKey s.health.live ⟨o, c⟩ v } }

@[simp] theorem classState_liveMoved (o : HealthObject) (c : Condition) (v : Bool) (s : State) (d : HealthClass) :
    classState (liveMoved o c v s) d = classState s d := by
  cases d <;> rfl

@[simp] theorem isHeld_liveMoved (o : HealthObject) (c : Condition) (v : Bool) (s : State) (p : HealthObject)
    (d : Condition) : isHeld (liveMoved o c v s) p d = isHeld s p d := rfl

theorem setLive_eq (o : HealthObject) (c : Condition) (v : Bool) (s : State) :
    setLive o c v s =
      if isLive s o c = v then s
      else if v && classState (liveMoved o c v s) (conditionClass c) == .armed && !isHeld (liveMoved o c v s) o c then
        setHeld o c (liveMoved o c v s)
      else liveMoved o c v s := rfl

/-- A fall of a live flag moves nothing else (R192). -/
theorem setLive_falls {o : HealthObject} {c : Condition} (h : isLive s o c = true) :
    setLive o c false s = liveMoved o c false s := by
  simp [setLive_eq, h]

/-- A rise that a class not ARMED or a held flag keeps silent (R192). -/
theorem setLive_rises_silent {o : HealthObject} {c : Condition} (h : isLive s o c = false)
    (silent : ¬ classState s (conditionClass c) = .armed ∨ isHeld s o c = true) :
    setLive o c true s = liveMoved o c true s := by
  rw [setLive_eq, if_neg (by simp [h]), if_neg]
  rcases silent with unarmed | held
  · simp [unarmed]
  · simp [held]

/-- A rise in an ARMED class sets a held flag that was clear (R192). -/
theorem setLive_rises_held {o : HealthObject} {c : Condition} (h : isLive s o c = false)
    (armed : classState s (conditionClass c) = .armed) (clear : isHeld s o c = false) :
    setLive o c true s = setHeld o c (liveMoved o c true s) := by
  rw [setLive_eq, if_neg (by simp [h]), if_pos]
  simp [armed, clear]

/-- A hand-off finds the flag as asked, clears it, or sets it, the held flag staying or rising with it. -/
theorem setLive_cases (o : HealthObject) (c : Condition) (v : Bool) (s : State) :
    (isLive s o c = v ∧ setLive o c v s = s) ∨
    (isLive s o c = true ∧ v = false ∧ setLive o c v s = liveMoved o c false s) ∨
    (isLive s o c = false ∧ v = true ∧ (¬ classState s (conditionClass c) = .armed ∨ isHeld s o c = true) ∧
      setLive o c v s = liveMoved o c true s) ∨
    (isLive s o c = false ∧ v = true ∧ classState s (conditionClass c) = .armed ∧ isHeld s o c = false ∧
      setLive o c v s = setHeld o c (liveMoved o c true s)) := by
  by_cases same : isLive s o c = v
  · exact .inl ⟨same, setLive_same same⟩
  refine .inr ?_
  cases v with
  | false =>
    have live : isLive s o c = true := by simpa using same
    exact .inl ⟨live, rfl, setLive_falls live⟩
  | true =>
    have clear : isLive s o c = false := by simpa using same
    by_cases armed : classState s (conditionClass c) = .armed
    · cases held : isHeld s o c with
      | true => exact .inr (.inl ⟨clear, rfl, .inr rfl, setLive_rises_silent clear (.inr held)⟩)
      | false => exact .inr (.inr ⟨clear, rfl, armed, rfl, setLive_rises_held clear armed held⟩)
    · exact .inr (.inl ⟨clear, rfl, .inl armed, setLive_rises_silent clear (.inl armed)⟩)

/-- The live flags after a hand-off. -/
theorem mem_live_setLive (o : HealthObject) (c : Condition) (v : Bool) (s : State) (k : CondKey) :
    k ∈ (setLive o c v s).health.live ↔ if k = ⟨o, c⟩ then v = true else k ∈ s.health.live := by
  have put : k ∈ (liveMoved o c v s).health.live ↔ if k = ⟨o, c⟩ then v = true else k ∈ s.health.live := mem_putKey _ _ _ _
  rcases setLive_cases o c v s with ⟨same, kept⟩ | ⟨_, rfl, moved⟩ | ⟨_, rfl, _, moved⟩ | ⟨_, rfl, _, _, moved⟩
  · rw [kept]
    split
    · next h => rw [h, ← same, isLive_iff]
    · rfl
  · rwa [moved]
  · rwa [moved]
  · rwa [moved, setHeld_eq]

/-- The held flags after a hand-off (R192). -/
theorem mem_held_setLive (o : HealthObject) (c : Condition) (v : Bool) (s : State) (k : CondKey) :
    k ∈ (setLive o c v s).health.held ↔
      k ∈ s.health.held ∨
        (k = ⟨o, c⟩ ∧ v = true ∧ isLive s o c = false ∧ classState s (conditionClass c) = .armed) := by
  rcases setLive_cases o c v s with ⟨same, kept⟩ | ⟨_, rfl, moved⟩ | ⟨_, rfl, silent, moved⟩ | ⟨clear, rfl, armed, _, moved⟩
  · rw [kept, ← same]
    cases isLive s o c <;> simp
  · simp [moved, liveMoved]
  · rw [moved]
    rcases silent with unarmed | held
    · simp [unarmed, liveMoved]
    · refine ⟨.inl, ?_⟩
      rintro (was | ⟨rfl, _⟩)
      · exact was
      · exact isHeld_iff.mp held
  · rw [moved, setHeld_eq]
    simp only [mem_putKey, clear, armed, and_true]
    by_cases key : k = ⟨o, c⟩ <;> simp [key, liveMoved]

/-- The outbox after a hand-off (R193). -/
theorem outbox_setLive (o : HealthObject) (c : Condition) (v : Bool) (s : State) :
    (setLive o c v s).outbox = s.outbox ++
      if isLive s o c = false ∧ v = true ∧ classState s (conditionClass c) = .armed ∧ isHeld s o c = false ∧
        isSelected s c = true
      then [.health o c true true (latestK s o c)] else [] := by
  rcases setLive_cases o c v s with ⟨same, kept⟩ | ⟨_, rfl, moved⟩ | ⟨_, rfl, silent, moved⟩ |
    ⟨clear, rfl, armed, unheld, moved⟩
  · rw [kept, ← same]
    cases isLive s o c <;> simp
  · simp [moved, liveMoved]
  · rw [moved]
    rcases silent with unarmed | held
    · simp [unarmed, liveMoved]
    · simp [held, liveMoved]
  · have live : isLive (liveMoved o c true s) o c = true := by simp [isLive_iff, liveMoved, mem_putKey]
    rw [moved, setHeld_eq, live]
    simp only [clear, armed, unheld, true_and]
    rfl

theorem isLive_setLive (o : HealthObject) (c : Condition) (v : Bool) (s : State) (p : HealthObject) (d : Condition) :
    isLive (setLive o c v s) p d = if p = o ∧ d = c then v else isLive s p d := by
  rw [Bool.eq_iff_iff, isLive_iff, mem_live_setLive]
  by_cases same : p = o ∧ d = c <;> simp [same, isLive_iff]

/-! ### What the flags leave alone -/

/-- Nothing moved but the outbox, the live and held flags and the summary. -/
structure FlagsOnly (s t : State) : Prop where
  eq : t = { s with
    outbox := t.outbox
    health := { s.health with live := t.health.live, held := t.health.held, summary := t.health.summary } }

theorem FlagsOnly.refl (s : State) : FlagsOnly s s := ⟨rfl⟩

theorem FlagsOnly.trans (h : FlagsOnly s t) (g : FlagsOnly t u) : FlagsOnly s u := ⟨g.eq.trans (by rw [h.eq])⟩

theorem FlagsOnly.trunks (h : FlagsOnly s t) : t.trunks = s.trunks := by rw [h.eq]

theorem FlagsOnly.link (h : FlagsOnly s t) : t.link = s.link := by rw [h.eq]

theorem FlagsOnly.pins (h : FlagsOnly s t) : t.pins = s.pins := by rw [h.eq]

theorem FlagsOnly.deselected (h : FlagsOnly s t) : t.health.deselected = s.health.deselected := by rw [h.eq]

theorem FlagsOnly.lineWindows (h : FlagsOnly s t) : t.health.lineWindows = s.health.lineWindows := by rw [h.eq]

theorem FlagsOnly.classState (h : FlagsOnly s t) (c : HealthClass) : classState t c = classState s c := by
  rw [h.eq]
  cases c <;> rfl

theorem FlagsOnly.isSelected (h : FlagsOnly s t) (c : Condition) : isSelected t c = isSelected s c := by
  rw [Machine.isSelected, h.deselected, Machine.isSelected]

theorem FlagsOnly.latestK (h : FlagsOnly s t) (o : HealthObject) (c : Condition) : latestK t o c = latestK s o c := by
  simp only [Machine.latestK, lineWindowOf, h.lineWindows]

theorem flagsOnly_setHeld (o : HealthObject) (c : Condition) (s : State) : FlagsOnly s (setHeld o c s) :=
  ⟨by rw [setHeld_eq]⟩

theorem flagsOnly_setLive (o : HealthObject) (c : Condition) (v : Bool) (s : State) : FlagsOnly s (setLive o c v s) := by
  rcases setLive_cases o c v s with ⟨_, kept⟩ | ⟨_, _, moved⟩ | ⟨_, _, _, moved⟩ | ⟨_, _, _, _, moved⟩
  · rw [kept]
    exact .refl s
  · exact ⟨by rw [moved]; rfl⟩
  · exact ⟨by rw [moved]; rfl⟩
  · exact ⟨by rw [moved, setHeld_eq]; rfl⟩

/-! ### The notices of a list of records -/

/-- `raised` reads of its two states the flags of the records listed, the classes, the selection and the latest k. -/
theorem raised_congr {s s' u u' : State} {ks : List CondKey}
    (live : ∀ k ∈ ks, (k ∈ s.health.live ↔ k ∈ s'.health.live) ∧ (k ∈ u.health.live ↔ k ∈ u'.health.live))
    (held : ∀ k ∈ ks, (k ∈ s.health.held ↔ k ∈ s'.health.held)) (classes : ∀ c, classState s c = classState s' c)
    (selection : ∀ c, isSelected s c = isSelected s' c) (latest : ∀ o c, latestK u o c = latestK u' o c) :
    raised s u ks = raised s' u' ks := by
  unfold raised
  simp only [latest]
  refine congrArg _ (List.filter_congr fun k hk => ?_)
  obtain ⟨before, now⟩ := live k hk
  simp only [List.contains_eq_mem, before, now, held k hk, classes, selection]

theorem raised_append (s u : State) (ks js : List CondKey) : raised s u (ks ++ js) = raised s u ks ++ raised s u js := by
  simp [raised]

/-- No live flag rises: no notice. -/
theorem raised_none {ks : List CondKey} (h : ∀ k ∈ ks, k ∈ u.health.live → k ∈ s.health.live) : raised s u ks = [] := by
  refine List.map_eq_nil_iff.mpr (List.filter_eq_nil_iff.mpr fun k hk on => ?_)
  simp only [Bool.and_eq_true, Bool.not_eq_true', List.contains_eq_mem, decide_eq_true_eq, decide_eq_false_iff_not] at on
  obtain ⟨⟨⟨⟨clear, live⟩, _⟩, _⟩, _⟩ := on
  exact clear (h k hk live)

/-! ### Records judged one after the other -/

/-- The live flags of the records listed may have moved; held flags followed, and the notices stand in the outbox in the
records' order (R192, R193). -/
structure RecordsJudged (ks : List CondKey) (s u : State) : Prop where
  frame : FlagsOnly s u
  others : ∀ k, k ∉ ks → (k ∈ u.health.live ↔ k ∈ s.health.live)
  held : ∀ k, HeldFollows s u k
  outbox : u.outbox = s.outbox ++ raised s u ks

theorem RecordsJudged.unchanged (ks : List CondKey) (s : State) : RecordsJudged ks s s where
  frame := .refl s
  others _ _ := Iff.rfl
  held k := by
    refine ⟨Or.inl, ?_⟩
    rintro (held | ⟨_, clear, live⟩)
    · exact held
    · exact absurd live clear
  outbox := by rw [raised_none fun _ _ live => live, List.append_nil]

/-- A held flag whose live flag is as it was is as it was. -/
theorem HeldFollows.of_live {k : CondKey} (h : HeldFollows s u k) (kept : k ∈ u.health.live ↔ k ∈ s.health.live) :
    k ∈ u.health.held ↔ k ∈ s.health.held := by
  refine Iff.trans h ⟨?_, .inl⟩
  rintro (held | ⟨_, clear, live⟩)
  · exact held
  · exact absurd (kept.mp live) clear

theorem RecordsJudged.append {ks js : List CondKey} (h : RecordsJudged ks s t) (g : RecordsJudged js t u)
    (apart : ∀ k ∈ ks, k ∉ js) : RecordsJudged (ks ++ js) s u where
  frame := h.frame.trans g.frame
  others k hk := by
    rw [List.mem_append, not_or] at hk
    rw [g.others k hk.2, h.others k hk.1]
  held k := by
    have first := h.held k
    have second := g.held k
    rw [HeldFollows] at first second ⊢
    rw [h.frame.classState] at second
    by_cases hk : k ∈ ks
    · have kept := g.others k (apart k hk)
      rw [second, first, kept]
      grind
    · have kept := h.others k hk
      rw [second, first, kept]
      grind
  outbox := by
    have early : raised s t ks = raised s u ks := by
      refine raised_congr (fun k hk => ⟨Iff.rfl, (g.others k (apart k hk)).symm⟩) (fun _ _ => Iff.rfl) (fun _ => rfl)
        (fun _ => rfl) fun o c => (g.frame.latestK o c).symm
    have late : raised t u js = raised s u js := by
      have kept : ∀ k ∈ js, (k ∈ t.health.live ↔ k ∈ s.health.live) := fun k hj =>
        h.others k fun hk => apart k hk hj
      exact raised_congr (fun k hj => ⟨kept k hj, Iff.rfl⟩) (fun k hj => (h.held k).of_live (kept k hj))
        h.frame.classState h.frame.isSelected fun _ _ => rfl
    rw [g.outbox, h.outbox, early, late, raised_append, List.append_assoc]

theorem raised_singleton (s u : State) (o : HealthObject) (c : Condition) :
    raised s u [⟨o, c⟩] =
      if isLive s o c = false ∧ isLive u o c = true ∧ classState s (conditionClass c) = .armed ∧ isHeld s o c = false ∧
        isSelected s c = true
      then [.health o c true true (latestK u o c)] else [] := by
  unfold raised
  rw [List.filter_cons, List.filter_nil, apply_ite (List.map _)]
  refine ite_congr (propext ?_) (fun _ => rfl) fun _ => rfl
  simp only [isLive, isHeld, Bool.and_eq_true, Bool.not_eq_true', decide_eq_true_eq, and_assoc]

/-- A hand-off judges its own record. -/
theorem recordsJudged_setLive (o : HealthObject) (c : Condition) (v : Bool) (s : State) :
    RecordsJudged [⟨o, c⟩] s (setLive o c v s) where
  frame := flagsOnly_setLive o c v s
  others k hk := by rw [mem_live_setLive, if_neg (by simpa using hk)]
  held k := by
    rw [HeldFollows, mem_held_setLive, mem_live_setLive]
    by_cases key : k = ⟨o, c⟩
    · subst key
      simp only [if_pos, true_and, ← isLive_iff, Bool.not_eq_true]
      grind
    · simp only [key, if_false, false_and, or_false]
      grind
  outbox := by
    have now : isLive (setLive o c v s) o c = v := by rw [isLive_setLive, if_pos ⟨rfl, rfl⟩]
    rw [outbox_setLive, raised_singleton, now, (flagsOnly_setLive o c v s).latestK]

theorem recordsJudged_applyJudgement (o : HealthObject) (c : Condition) (v : Option Bool) (s : State) :
    RecordsJudged [⟨o, c⟩] s (applyJudgement o c v s) := by
  cases v with
  | none => exact .unchanged _ s
  | some b => exact recordsJudged_setLive o c b s

theorem isLive_applyJudgement (o : HealthObject) (c : Condition) (v : Option Bool) (s : State) (p : HealthObject)
    (d : Condition) :
    isLive (applyJudgement o c v s) p d = if p = o ∧ d = c then v.getD (isLive s p d) else isLive s p d := by
  cases v with
  | none => exact (ite_self _).symm
  | some b => exact isLive_setLive o c b s p d

end Sys2Proof.Machine
end

section
/-! SUPPORT. The WALL samples and the end of grace (R184, R186, R187, R191), and what becomes of an event's notices. -/

namespace Sys2Proof.Machine

variable {s t u : State}

/-! ### The notices of an event (R12) -/

/-- A notice joining reads the link and the pins alone. -/
theorem eventNotice_link_congr (hl : t.link = s.link) (hp : t.pins = s.pins) (n : Notice) :
    (eventNotice n t).link = (eventNotice n s).link := by
  have same : silenced t = silenced s := by rw [silenced, hp, silenced]
  by_cases silent : silenced s = true <;> simp [eventNotice, arbitrate, same, silent, hl]

theorem eventNotice_pins (n : Notice) (s : State) : (eventNotice n s).pins = s.pins := by rw [eventNotice_eq]

theorem linkAfter_congr (ns : List Notice) :
    ∀ {s t : State}, t.link = s.link → t.pins = s.pins → linkAfter ns t = linkAfter ns s := by
  induction ns with
  | nil => intro s t hl _; exact hl
  | cons n ns ih =>
    intro s t hl hp
    refine ih (s := eventNotice n s) (t := eventNotice n t) (eventNotice_link_congr hl hp n) ?_
    rw [eventNotice_pins, eventNotice_pins, hp]

/-- An event's notices join in the order in which they were produced. -/
theorem flush_link (u : State) : (flush u).link = linkAfter (settleTrunks u).outbox u := by
  have kept := (CoreFlow.refl u).settleTrunks
  exact linkAfter_congr (s := u) (t := { settleTrunks u with outbox := [] }) _ kept.link kept.pins

/-- Where the trunks are quiet, an event ends with its notices joined. -/
theorem flush_of_trunks (hs : Settled s) (trunks : u.trunks = s.trunks) (link : u.link = s.link) (pins : u.pins = s.pins) :
    flush u = { u with outbox := s.outbox, link := linkAfter u.outbox s } := by
  have calm : Settled { u with outbox := [] } := hs.congr hs.1.symm trunks
  have decided : settleTrunks u = u := settleTrunks_quiet (settled_iff.mp calm).2
  rw [flush_eq, flush_link, decided, linkAfter_congr _ link pins, hs.1]

/-! ### WALL windows (R184, R186) -/

theorem lookupD_assign {α : Type} (t : Table α) (k j : Nat) (v d : α) :
    lookupD (assign t k v) j d = if k = j then v else lookupD t j d := by
  rw [lookupD, lookup_assign]
  split <;> rfl

/-- Each wall's count takes its own sample. -/
theorem lookupD_samples (sample : Nat → Bool) (i : Nat) (l : List Nat) (distinct : l.Nodup) :
    ∀ counts : Table Nat,
      lookupD (l.foldl (fun acc w => if sample w then assign acc w (lookupD acc w 0 + 1) else acc) counts) i 0 =
        lookupD counts i 0 + if i ∈ l ∧ sample i = true then 1 else 0 := by
  induction l with
  | nil => intro counts; simp
  | cons w l ih =>
    intro counts
    obtain ⟨new, distinct⟩ := List.nodup_cons.mp distinct
    rw [List.foldl_cons, ih distinct]
    by_cases own : w = i
    · subst own
      cases sample w <;> simp [new, lookupD_assign]
    · have other : i ≠ w := Ne.symm own
      cases sample w <;> simp [own, other, lookupD_assign]

theorem lookupD_sampledCounts {i : Nat} (low : 1 ≤ i) (high : i ≤ 32) :
    lookupD (sampledCounts s) i 0 = lookupD s.health.wallWindows.counts i 0 + if conflictSample s i then 1 else 0 := by
  have listed : i ∈ upTo Config.walls := (mem_upTo _ _).mpr ⟨low, high⟩
  rw [sampledCounts, lookupD_samples (conflictSample s) i _ (nodup_upTo _)]
  simp [listed]

/-- The WALL_CONFLICT records of walls. -/
def wallRecords (l : List Nat) : List CondKey := l.map fun w => ⟨.wall w, .wallConflict⟩

/-- Windows of walls judged one after the other. -/
theorem recordsJudged_walls (judgement : Nat → Option Bool) (l : List Nat) (distinct : l.Nodup) :
    ∀ s, RecordsJudged (wallRecords l) s
      (l.foldl (fun acc w => applyJudgement (.wall w) .wallConflict (judgement w) acc) s) := by
  induction l with
  | nil => intro s; exact .unchanged [] s
  | cons w l ih =>
    intro s
    obtain ⟨new, distinct⟩ := List.nodup_cons.mp distinct
    refine (recordsJudged_applyJudgement (.wall w) .wallConflict (judgement w) s).append (ih distinct _) fun k hk => ?_
    rw [List.mem_singleton.mp hk]
    simpa [wallRecords] using new

theorem isLive_walls (judgement : Nat → Option Bool) (i : Nat) (l : List Nat) (distinct : l.Nodup) :
    ∀ s, isLive (l.foldl (fun acc w => applyJudgement (.wall w) .wallConflict (judgement w) acc) s) (.wall i)
        .wallConflict =
      if i ∈ l then (judgement i).getD (isLive s (.wall i) .wallConflict) else isLive s (.wall i) .wallConflict := by
  induction l with
  | nil => intro s; rfl
  | cons w l ih =>
    intro s
    obtain ⟨new, distinct⟩ := List.nodup_cons.mp distinct
    rw [List.foldl_cons, ih distinct]
    simp only [isLive_applyJudgement]
    by_cases own : i = w
    · subst own
      simp [new]
    · simp [own]

/-- What a window makes of a live flag: over one half sets it, one quarter or less clears it (R186). -/
theorem judgeWindow_getD (w count : Nat) (live : Bool) :
    (judgeWindow w count).getD live = if 2 * count > w then true else if 4 * count ≤ w then false else live := by
  unfold judgeWindow
  split
  · rfl
  · split <;> rfl

/-- A WALL sample's instant, and the windows it leaves. -/
def wallSampled (w : WallWindows) (s : State) : State :=
  setWallWindows w (reachInstant s.nextSample { s with nextSample := s.nextSample + Config.second })

/-- A sample before a window's end counts (R184, R186). -/
theorem exec_wallSample_counts (hs : Settled s) (more : s.health.wallWindows.taken + 1 < s.health.wallWindows.length) :
    exec .wallSample s =
      .next (wallSampled ⟨s.health.wallWindows.length, s.health.wallWindows.taken + 1, sampledCounts s⟩ s) := by
  have sampled : sampleWalls s =
      wallSampled ⟨s.health.wallWindows.length, s.health.wallWindows.taken + 1, sampledCounts s⟩ s :=
    if_neg (Nat.not_le.mpr more)
  have calm : Settled (sampleWalls s) := by
    rw [sampled]
    exact hs.congr rfl rfl
  rw [← sampled]
  exact event_quiet calm

/-- The state in which a full window has been judged and new windows have started (R186, R187). -/
def wallsJudged (s : State) : State :=
  judgeWalls s.health.wallWindows.length (sampledCounts s) (wallSampled ⟨s.health.wallSetting, 0, []⟩ s)

theorem recordsJudged_wallsJudged (s : State) :
    RecordsJudged (wallRecords (upTo 32)) (wallSampled ⟨s.health.wallSetting, 0, []⟩ s) (wallsJudged s) := by
  unfold wallsJudged judgeWalls
  exact recordsJudged_walls (fun w => judgeWindow s.health.wallWindows.length (lookupD (sampledCounts s) w 0)) (upTo 32)
    (nodup_upTo 32) (wallSampled ⟨s.health.wallSetting, 0, []⟩ s)

theorem wallsJudged_eq (s : State) :
    wallsJudged s =
      { s with
        now := max s.now s.nextSample
        nextSample := s.nextSample + 1000
        outbox := (wallsJudged s).outbox
        health :=
          { s.health with
            live := (wallsJudged s).health.live
            held := (wallsJudged s).health.held
            summary := (wallsJudged s).health.summary
            wallWindows := ⟨s.health.wallSetting, 0, []⟩ } } := (recordsJudged_wallsJudged s).frame.eq

/-- The notices of a window's end, in the order of the walls (R192, R193, R198). -/
theorem wallsJudged_outbox (hs : Settled s) :
    (wallsJudged s).outbox = raised s (wallsJudged s) (wallRecords (upTo 32)) := by
  have start : (wallSampled ⟨s.health.wallSetting, 0, []⟩ s).outbox = [] := hs.1
  rw [(recordsJudged_wallsJudged s).outbox, start, List.nil_append]
  exact raised_congr (fun _ _ => ⟨Iff.rfl, Iff.rfl⟩) (fun _ _ => Iff.rfl) (fun c => by cases c <;> rfl) (fun _ => rfl)
    fun _ _ => rfl

theorem isLive_wallsJudged {i : Nat} (low : 1 ≤ i) (high : i ≤ 32) :
    isLive (wallsJudged s) (.wall i) .wallConflict =
      (judgeWindow s.health.wallWindows.length
        (lookupD s.health.wallWindows.counts i 0 + if conflictSample s i then 1 else 0)).getD
          (isLive s (.wall i) .wallConflict) := by
  have listed : i ∈ upTo Config.walls := (mem_upTo _ _).mpr ⟨low, high⟩
  rw [← lookupD_sampledCounts low high, wallsJudged, judgeWalls,
    isLive_walls (fun w => judgeWindow s.health.wallWindows.length (lookupD (sampledCounts s) w 0)) i _ (nodup_upTo _),
    if_pos listed]
  rfl

theorem exec_wallSample_judges (hs : Settled s) (full : s.health.wallWindows.length ≤ s.health.wallWindows.taken + 1) :
    exec .wallSample s =
      .next { wallsJudged s with outbox := s.outbox, link := linkAfter (wallsJudged s).outbox s } := by
  have sampled : sampleWalls s = wallsJudged s := if_pos full
  have frame := (recordsJudged_wallsJudged s).frame
  have ends : exec .wallSample s = .next (flush (sampleWalls s)) := rfl
  rw [ends, sampled, flush_of_trunks hs frame.trunks frame.link frame.pins]

/-- A full window in one: the state `u` it leaves before its notices join. -/
theorem exec_wallSample_judged (hs : Settled s)
    (full : s.health.wallWindows.length ≤ s.health.wallWindows.taken + 1) :
    ∃ u : State, exec .wallSample s = .next { u with outbox := s.outbox, link := linkAfter u.outbox s } ∧
      u = { s with
        now := max s.now s.nextSample
        nextSample := s.nextSample + 1000
        outbox := u.outbox
        health :=
          { s.health with
            live := u.health.live, held := u.health.held, summary := u.health.summary
            wallWindows := ⟨s.health.wallSetting, 0, []⟩ } } ∧
      (∀ i, 1 ≤ i → i ≤ 32 → isLive u (.wall i) .wallConflict =
        (judgeWindow s.health.wallWindows.length
          (lookupD s.health.wallWindows.counts i 0 + if conflictSample s i then 1 else 0)).getD
            (isLive s (.wall i) .wallConflict)) ∧
      (∀ k, k ∉ wallRecords (upTo 32) → (k ∈ u.health.live ↔ k ∈ s.health.live)) ∧ (∀ k, HeldFollows s u k) ∧
      u.outbox = raised s u (wallRecords (upTo 32)) := by
  obtain ⟨_, others, held, _⟩ := recordsJudged_wallsJudged s
  exact ⟨wallsJudged s, exec_wallSample_judges hs full, wallsJudged_eq s, fun _ => isLive_wallsJudged, others, held,
    wallsJudged_outbox hs⟩

/-! ### The end of grace (R191) -/

/-- The records listed are held, and each whose condition is selected has its notice, in the list's order. -/
structure Promoted (l : List CondKey) (s u : State) : Prop where
  frame : FlagsOnly s u
  live : u.health.live = s.health.live
  held : ∀ k, k ∈ u.health.held ↔ k ∈ s.health.held ∨ k ∈ l
  outbox : u.outbox = s.outbox ++ (l.filter fun k => isSelected s k.condition).map fun k =>
    .health k.object k.condition (isLive s k.object k.condition) true (latestK s k.object k.condition)

theorem promoted_foldl (l : List CondKey) :
    ∀ s, Promoted l s (l.foldl (fun acc k => setHeld k.object k.condition acc) s) := by
  induction l with
  | nil => intro s; exact ⟨.refl s, rfl, by simp, by simp⟩
  | cons k l ih =>
    intro s
    have first := flagsOnly_setHeld k.object k.condition s
    have live : (setHeld k.object k.condition s).health.live = s.health.live := by rw [setHeld_eq]
    obtain ⟨frame, rest, held, outbox⟩ := ih (setHeld k.object k.condition s)
    refine ⟨first.trans frame, rest.trans live, fun j => ?_, ?_⟩
    · rw [List.foldl_cons, held, setHeld_eq]
      simp only [mem_putKey, List.mem_cons]
      by_cases same : j = k <;> simp [same]
    · rw [List.foldl_cons, outbox]
      simp only [first.isSelected, first.latestK, isLive, live]
      rw [setHeld_eq, List.append_assoc]
      by_cases selected : isSelected s k.condition = true <;> simp [selected, isLive]

/-- The state in which a class's grace has run out and its live flags have been promoted (R191). -/
def graceEnded (c : HealthClass) (ends : Nat) (s : State) : State :=
  promote c (setClassState c .armed (reachInstant ends s))

theorem promoted_graceEnded (c : HealthClass) (ends : Nat) (s : State) :
    Promoted (s.health.live.filter fun k => conditionClass k.condition == c)
      (setClassState c .armed (reachInstant ends s)) (graceEnded c ends s) := by
  have live : (setClassState c .armed (reachInstant ends s)).health.live = s.health.live := by cases c <;> rfl
  rw [← live]
  exact promoted_foldl _ _

theorem graceEnded_eq (c : HealthClass) (ends : Nat) (s : State) :
    graceEnded c ends s =
      { s with
        now := max s.now ends
        outbox := (graceEnded c ends s).outbox
        health :=
          { (setClassState c .armed s).health with
            held := (graceEnded c ends s).health.held, summary := (graceEnded c ends s).health.summary } } := by
  obtain ⟨frame, live, _, _⟩ := promoted_graceEnded c ends s
  refine frame.eq.trans ?_
  rw [live]
  cases c <;> rfl

theorem graceEnded_live (c : HealthClass) (ends : Nat) (s : State) :
    (graceEnded c ends s).health.live = s.health.live := by
  rw [(promoted_graceEnded c ends s).live]
  cases c <;> rfl

theorem mem_held_graceEnded (c : HealthClass) (ends : Nat) (s : State) (k : CondKey) :
    k ∈ (graceEnded c ends s).health.held ↔
      k ∈ s.health.held ∨ (k ∈ s.health.live ∧ conditionClass k.condition = c) := by
  have start : (setClassState c .armed (reachInstant ends s)).health.held = s.health.held := by cases c <;> rfl
  rw [(promoted_graceEnded c ends s).held, start, List.mem_filter, beq_iff_eq]

/-- The notices of the promotions (R191, R193). -/
theorem graceEnded_outbox (hs : Settled s) (c : HealthClass) (ends : Nat) :
    (graceEnded c ends s).outbox =
      (s.health.live.filter fun k => conditionClass k.condition == c && isSelected s k.condition).map fun k =>
        .health k.object k.condition true true (latestK s k.object k.condition) := by
  have start : (setClassState c .armed (reachInstant ends s)).outbox = [] := by rw [setClassState_outbox]; exact hs.1
  have flags : ∀ k : CondKey,
      isLive (setClassState c .armed (reachInstant ends s)) k.object k.condition = isLive s k.object k.condition ∧
      isSelected (setClassState c .armed (reachInstant ends s)) k.condition = isSelected s k.condition ∧
      latestK (setClassState c .armed (reachInstant ends s)) k.object k.condition = latestK s k.object k.condition := by
    intro k
    cases c <;> exact ⟨rfl, rfl, rfl⟩
  rw [(promoted_graceEnded c ends s).outbox, start, List.nil_append, List.filter_filter]
  simp only [fun k => (flags k).1, fun k => (flags k).2.1, fun k => (flags k).2.2, Bool.and_comm]
  refine List.map_congr_left fun k hk => ?_
  rw [isLive_iff.mpr (List.mem_filter.mp hk).1]

theorem exec_graceEnd {c : HealthClass} {ends : Nat} (hs : Settled s) (grace : classState s c = .grace ends) :
    exec (.graceEnd c) s =
      .next { graceEnded c ends s with outbox := s.outbox, link := linkAfter (graceEnded c ends s).outbox s } := by
  have frame := (promoted_graceEnded c ends s).frame
  have kept : (graceEnded c ends s).trunks = s.trunks ∧ (graceEnded c ends s).link = s.link ∧
      (graceEnded c ends s).pins = s.pins := by
    rw [frame.trunks, frame.link, frame.pins]
    cases c <;> exact ⟨rfl, rfl, rfl⟩
  have ended : endGrace c s = graceEnded c ends s := by rw [endGrace, grace]; rfl
  have run : exec (.graceEnd c) s = .next (flush (endGrace c s)) := rfl
  obtain ⟨trunks, link, pins⟩ := kept
  rw [run, ended, flush_of_trunks hs trunks link pins]

/-- The end of grace in one: the state `u` it leaves before its notices join. -/
theorem exec_graceEnd_promoted {c : HealthClass} {ends : Nat} (hs : Settled s) (grace : classState s c = .grace ends) :
    ∃ u : State, exec (.graceEnd c) s = .next { u with outbox := s.outbox, link := linkAfter u.outbox s } ∧
      u = { s with
        now := max s.now ends
        outbox := u.outbox
        health := { (setClassState c .armed s).health with held := u.health.held, summary := u.health.summary } } ∧
      u.health.live = s.health.live ∧
      (∀ k, k ∈ u.health.held ↔ k ∈ s.health.held ∨ (k ∈ s.health.live ∧ conditionClass k.condition = c)) ∧
      u.outbox =
        (s.health.live.filter fun k => conditionClass k.condition == c && isSelected s k.condition).map fun k =>
          .health k.object k.condition true true (latestK s k.object k.condition) :=
  ⟨graceEnded c ends s, exec_graceEnd hs grace, graceEnded_eq c ends s, graceEnded_live c ends s,
    mem_held_graceEnded c ends s, graceEnded_outbox hs c ends⟩

end Sys2Proof.Machine
end

section
/-! SUPPORT. A trunk's decision at the end of an exchange (R176–R178): what it leaves alone, the one trunk told to decide,
and what a FAULTED trunk decides. -/

namespace Sys2Proof.Machine

variable {s t u : State}

/-! ### What a trunk's decision leaves alone -/

/-- Inside the frame of a trunk's decision: no notice, no sign, and no flag but those of panels. -/
structure DecisionFlow (s t : State) : Prop where
  core : CoreFlow s t
  outbox : t.outbox = s.outbox
  resolver : t.resolver = s.resolver
  flags : ∀ o c, (∀ n p, o ≠ .panel n p) → isLive t o c = isLive s o c

theorem DecisionFlow.refl (s : State) : DecisionFlow s s := ⟨.refl s, rfl, rfl, fun _ _ _ => rfl⟩

theorem DecisionFlow.trans (h : DecisionFlow s t) (g : DecisionFlow t u) : DecisionFlow s u where
  core := h.core.trans g.core
  outbox := g.outbox.trans h.outbox
  resolver := g.resolver.trans h.resolver
  flags o c ho := (g.flags o c ho).trans (h.flags o c ho)

theorem DecisionFlow.foldl {α : Type} {f : State → α → State} (hf : ∀ a u, DecisionFlow u (f u a)) (l : List α) :
    ∀ s, DecisionFlow s (l.foldl f s) := by
  induction l with
  | nil => exact .refl
  | cons a l ih => intro s; exact (hf a s).trans (ih _)

theorem decisionFlow_modifyTrunk (n : Nat) (f : Trunk → Trunk) (s : State) : DecisionFlow s (modifyTrunk n f s) :=
  ⟨(CoreFlow.refl s).modifyTrunk n f, rfl, rfl, fun _ _ _ => rfl⟩

theorem decisionFlow_setExchange (n : Nat) (e : Option Exchange) (s : State) : DecisionFlow s (setExchange n e s) :=
  decisionFlow_modifyTrunk n _ s

theorem decisionFlow_dropStep (n : Nat) (s : State) : DecisionFlow s (dropStep n s) := decisionFlow_modifyTrunk n _ s

theorem decisionFlow_beginWalk (n : Nat) (s : State) : DecisionFlow s (beginWalk n s) := decisionFlow_modifyTrunk n _ s

theorem decisionFlow_beginRun (id : Nat) (s : State) : DecisionFlow s (beginRun id s) := by
  have core := (CoreFlow.refl s).beginRun id
  unfold beginRun at core ⊢
  split
  · exact .refl s
  · next p found =>
    rw [found] at core
    exact ⟨core, rfl, rfl, fun _ _ _ => rfl⟩

theorem decisionFlow_handOut (k : Nat) (p : Panel) (b : Bool) (d : DispatchStep) (s : State) :
    DecisionFlow s (handOut k p b d s) :=
  ⟨(CoreFlow.refl s).handOut k p b d, rfl, rfl, fun _ _ _ => rfl⟩

theorem decisionFlow_carryStep (n k : Nat) (p : Panel) (b : Bool) (d : DispatchStep) (s : State) :
    DecisionFlow s (carryStep n k p b d s) := by
  have handed : DecisionFlow s (modifyTrunk n (fun x => { x with step := some d }) (handOut k p b d s)) :=
    (decisionFlow_handOut k p b d s).trans (decisionFlow_modifyTrunk n _ _)
  unfold carryStep
  dsimp only
  split
  · exact (handed.trans (decisionFlow_setExchange n _ _)).trans (decisionFlow_beginRun _ _)
  · exact handed.trans (decisionFlow_setExchange n _ _)

theorem decisionFlow_dispatchStep (n : Nat) (s : State) : DecisionFlow s (dispatchStep n s) := by
  unfold dispatchStep
  split
  · exact decisionFlow_carryStep _ _ _ _ _ s
  · exact .refl s

theorem decisionFlow_arbiter (n : Nat) (s : State) : DecisionFlow s (arbiter n s) := by
  have probes : DecisionFlow s (setExchange n (some .probe) (modifyTrunk n (fun y => { y with probeDue := false }) s)) :=
    (decisionFlow_modifyTrunk n _ s).trans (decisionFlow_setExchange n _ _)
  unfold arbiter
  dsimp only
  split
  · exact .refl s
  · exact .refl s
  · split
    · exact probes
    · exact .refl s
  · split
    · exact probes
    · split
      · exact decisionFlow_setExchange n _ s
      · split
        · exact decisionFlow_setExchange n _ s
        · exact decisionFlow_dispatchStep n s

theorem decisionFlow_continueWalk (n : Nat) (s : State) : DecisionFlow s (continueWalk n s) := by
  unfold continueWalk
  split
  · exact decisionFlow_modifyTrunk n _ s
  · exact (decisionFlow_modifyTrunk n _ s).trans (decisionFlow_arbiter n _)

/-- A panel's flag cleared. -/
theorem decisionFlow_setLive (k : Nat) (c : Condition) (s : State) :
    DecisionFlow s (setLive (panelObject k) c false s) where
  core := (CoreFlow.refl s).setLive _ c false
  outbox := by simp [outbox_setLive]
  resolver := by rw [(flagsOnly_setLive (panelObject k) c false s).eq]
  flags o d ho := by
    have other : o ≠ panelObject k := ho _ _
    rw [isLive_setLive, if_neg fun same => other same.1]

theorem decisionFlow_modifyPanel (k : Nat) (f : Panel → Panel) (s : State) : DecisionFlow s (modifyPanel k f s) := by
  have core := (CoreFlow.refl s).modifyPanel k f
  unfold modifyPanel at core ⊢
  split
  · exact .refl s
  · next p found =>
    rw [found] at core
    exact ⟨core, rfl, rfl, fun _ _ _ => rfl⟩

theorem decisionFlow_stopPanels (n : Nat) (s : State) : DecisionFlow s (stopPanels n s) :=
  DecisionFlow.foldl (fun k u => (decisionFlow_modifyPanel k _ u).trans
    (DecisionFlow.foldl (fun c v => decisionFlow_setLive k c v) _ _)) _ s

theorem decisionFlow_takeStop (n : Nat) (s : State) : DecisionFlow s (takeStop n s) :=
  (decisionFlow_stopPanels n s).trans (decisionFlow_modifyTrunk n _ _)

theorem decisionFlow_decideNext (n : Nat) (s : State) : DecisionFlow s (decideNext n s) := by
  have dropped := decisionFlow_dropStep n s
  unfold decideNext
  dsimp only
  split
  · exact decisionFlow_takeStop n s
  · split
    · exact dropped.trans (decisionFlow_continueWalk n _)
    · split
      · exact decisionFlow_beginWalk n s
      · exact dropped.trans (decisionFlow_arbiter n _)
    · exact dropped.trans (decisionFlow_arbiter n _)
    · exact .refl s

theorem decisionFlow_settleTrunk (n : Nat) (s : State) : DecisionFlow s (settleTrunk n s) := by
  have heard := decisionFlow_modifyTrunk n (fun y => { y with wake := false }) s
  unfold settleTrunk
  dsimp only
  split
  · split
    · exact heard.trans (decisionFlow_arbiter n _)
    · exact heard
  · exact .refl s

theorem decisionFlow_settleTrunks (s : State) : DecisionFlow s (settleTrunks s) :=
  DecisionFlow.foldl decisionFlow_settleTrunk _ s

/-! ### The one trunk told to decide -/

/-- Where no other trunk is told to decide, only one does (R177). -/
theorem settleTrunks_only {n : Nat} (hn : within Config.trunks n = true)
    (calm : ∀ m, within Config.trunks m = true → m ≠ n → (trunkOf s m).wake = false) :
    settleTrunks s = settleTrunk n s := by
  have skips : ∀ (l : List Nat) (v : State), (∀ m ∈ l, (trunkOf v m).wake = false) →
      l.foldl (fun acc m => settleTrunk m acc) v = v := by
    intro l
    induction l with
    | nil => intro v _; rfl
    | cons m l ih =>
      intro v quiet
      rw [List.foldl_cons, settleTrunk_quiet (quiet m (by simp))]
      exact ih v fun j hj => quiet j (by simp [hj])
  have listed : n ∈ upTo Config.trunks := by simpa [mem_upTo, within] using hn
  obtain ⟨before, after, split⟩ := List.append_of_mem listed
  have distinct : (before ++ n :: after).Nodup := split ▸ nodup_upTo _
  have quiet : ∀ m ∈ before ++ n :: after, m ≠ n → (trunkOf s m).wake = false := by
    rw [← split]
    exact fun m hm => calm m (by simpa [mem_upTo, within] using hm)
  obtain ⟨_, tail, apart⟩ := List.nodup_append.mp distinct
  obtain ⟨notAfter, _⟩ := List.nodup_cons.mp tail
  have notBefore : n ∉ before := fun hn => apart n hn n (by simp) rfl
  rw [settleTrunks, split, List.foldl_append, List.foldl_cons, skips before s, skips after]
  · intro m hm
    have other : m ≠ n := fun same => notAfter (same ▸ hm)
    rw [wake_settleTrunk, if_neg other.symm]
    exact quiet m (by simp [hm]) other
  · intro m hm
    exact quiet m (by simp [hm]) fun same => notBefore (same ▸ hm)

/-- The arbiter of a FAULTED trunk: a line test that is due, or nothing (R178). -/
theorem arbiter_faulted {n : Nat} (faulted : (trunkOf s n).state = .faulted) :
    arbiter n s =
      if (trunkOf s n).probeDue = true then
        setExchange n (some .probe) (modifyTrunk n (fun y => { y with probeDue := false }) s)
      else s := by
  unfold arbiter
  simp only [faulted]

/-- A trunk that an exchange holds, or a FAULTED one with no probe due, hears of the call and takes nothing up (R177,
R178). -/
theorem trunkOf_settleTrunk_holds {n : Nat}
    (holds : (trunkOf s n).exchange ≠ none ∨ ((trunkOf s n).state = .faulted ∧ (trunkOf s n).probeDue = false)) :
    trunkOf (settleTrunk n s) n = { trunkOf s n with wake := false } := by
  have heard : trunkOf (modifyTrunk n (fun y => { y with wake := false }) s) n = { trunkOf s n with wake := false } := by
    rw [trunkOf_modifyTrunk, if_pos rfl]
  unfold settleTrunk
  dsimp only
  by_cases wake : (trunkOf s n).wake = true
  · rw [if_pos wake]
    split
    · next free =>
      obtain ⟨state, due⟩ := holds.resolve_left (by simpa using free.1)
      rw [arbiter_faulted (by rw [heard]; exact state), heard, if_neg (by simp [due])]
      exact heard
    · exact heard
  · rw [if_neg wake]
    have same : (trunkOf s n).wake = false := by simpa using wake
    rw [← same]

/-- What a FAULTED trunk decides: a line test that is due, or nothing (R178). -/
theorem trunkOf_decideNext_faulted {n : Nat} (faulted : (trunkOf s n).state = .faulted)
    (goes : (trunkOf s n).stopPending = false) (m : Nat) :
    trunkOf (decideNext n s) m =
      if n = m then
        { trunkOf s n with
          step := none, probeDue := false
          exchange := if (trunkOf s n).probeDue then some .probe else (trunkOf s n).exchange }
      else trunkOf s m := by
  have dropped : trunkOf (dropStep n s) n = { trunkOf s n with step := none } := by
    rw [dropStep, trunkOf_modifyTrunk, if_pos rfl]
  have decides : decideNext n s = arbiter n (dropStep n s) := by simp [decideNext, faulted, goes]
  rw [decides, arbiter_faulted (by rw [dropped]; exact faulted), dropped]
  by_cases due : (trunkOf s n).probeDue = true
  · simp only [due, if_true, setExchange, trunkOf_modifyTrunk, dropStep]
    split <;> rfl
  · have same : (trunkOf s n).probeDue = false := by simpa using due
    rw [if_neg due, if_neg due, ← same, dropStep, trunkOf_modifyTrunk]

end Sys2Proof.Machine
end

section
/-! SUPPORT. The statement of 09_health_supervision.md on flags, samples and grace: the sample of a line test, the change of
LINE_SHORT it makes, and the end of the test (R175, R178, R185–R189). -/

namespace Sys2Proof.Machine

variable {s u v w : State}

/-! ### The sample of a line test (R185–R187) -/

theorem lineWindowOf_setLineWindow (n m : Nat) (w : LineWindow) (s : State) :
    lineWindowOf (setLineWindow n w s) m = if n = m then w else lineWindowOf s m := by
  simp [lineWindowOf, setLineWindow, lookupD_assignD]

@[simp] theorem countSample_length (w : LineWindow) (r : ProbeResult) : (countSample w r).length = w.length := by
  cases r <;> rfl

@[simp] theorem countSample_taken (w : LineWindow) (r : ProbeResult) : (countSample w r).taken = w.taken + 1 := by
  cases r <;> rfl

theorem countSample_short (w : LineWindow) (r : ProbeResult) :
    (countSample w r).short = w.short + if r = .short then 1 else 0 := by
  cases r <;> rfl

/-- A test's sample for LINE_OPEN. -/
def opensOf : ProbeResult → Nat
  | .ok => 0
  | .short => 0
  | .openAt _ => 1

/-- The latest k after a test. -/
def latestOf (was : Nat) : ProbeResult → Nat
  | .ok => was
  | .short => was
  | .openAt k => k

theorem countSample_opens (w : LineWindow) (r : ProbeResult) :
    (countSample w r).opens = w.opens + opensOf r := by
  cases r <;> rfl

/-- The window that a sample leaves: one more sample, or a new window (R186, R187). -/
def windowSampled (w : LineWindow) (r : ProbeResult) (setting : Nat) : LineWindow :=
  if w.length ≤ w.taken + 1 then ⟨setting, 0, 0, 0, (countSample w r).latestK⟩ else countSample w r

theorem windowSampled_eq (w : LineWindow) (r : ProbeResult) (setting : Nat) :
    windowSampled w r setting =
      if w.length ≤ w.taken + 1 then ⟨setting, 0, 0, 0, latestOf w.latestK r⟩
      else
        { w with
          taken := w.taken + 1
          short := w.short + if r = .short then 1 else 0
          opens := w.opens + opensOf r
          latestK := latestOf w.latestK r } := by
  cases r <;> rfl

/-- A trunk's line records. -/
def lineRecords (n : Nat) : List CondKey := [⟨.trunk n, .lineShort⟩, ⟨.trunk n, .lineOpen⟩]

/-- The window set by a sample. -/
def withSample (n : Nat) (r : ProbeResult) (s : State) : State :=
  setLineWindow n (windowSampled (lineWindowOf s n) r s.health.lineSetting) s

theorem lineSample_counts {n : Nat} (r : ProbeResult) (more : ¬ (lineWindowOf s n).length ≤ (lineWindowOf s n).taken + 1) :
    lineSample n r s = withSample n r s := by
  rw [withSample, windowSampled, if_neg more]
  exact if_neg (by simpa using more)

theorem lineSample_judges {n : Nat} (r : ProbeResult) (full : (lineWindowOf s n).length ≤ (lineWindowOf s n).taken + 1) :
    lineSample n r s =
      applyJudgement (.trunk n) .lineOpen
        (judgeWindow (lineWindowOf s n).length (countSample (lineWindowOf s n) r).opens)
        (applyJudgement (.trunk n) .lineShort
          (judgeWindow (lineWindowOf s n).length (countSample (lineWindowOf s n) r).short) (withSample n r s)) := by
  rw [withSample, windowSampled, if_pos full, ← countSample_length (lineWindowOf s n) r]
  exact if_pos (by simpa using full)

theorem recordsJudged_lineSample (n : Nat) (r : ProbeResult) (s : State) :
    RecordsJudged (lineRecords n) (withSample n r s) (lineSample n r s) := by
  by_cases full : (lineWindowOf s n).length ≤ (lineWindowOf s n).taken + 1
  · rw [lineSample_judges r full]
    exact (recordsJudged_applyJudgement _ _ _ _).append (recordsJudged_applyJudgement _ _ _ _) (by simp)
  · rw [lineSample_counts r full]
    exact .unchanged _ _

/-- A flag as the next sample of a window with a count leaves it: judged if the window is then full (R186). -/
def flagJudged (w : LineWindow) (count : Nat) (was : Bool) : Bool :=
  if w.length ≤ w.taken + 1 ∧ 2 * count > w.length then true
  else if w.length ≤ w.taken + 1 ∧ 4 * count ≤ w.length then false
  else was

/-- A sample judges each of the two flags. -/
theorem isLive_lineSample (n : Nat) (r : ProbeResult) (s : State) :
    isLive (lineSample n r s) (.trunk n) .lineShort =
        flagJudged (lineWindowOf s n) (countSample (lineWindowOf s n) r).short (isLive s (.trunk n) .lineShort) ∧
      isLive (lineSample n r s) (.trunk n) .lineOpen =
        flagJudged (lineWindowOf s n) (countSample (lineWindowOf s n) r).opens (isLive s (.trunk n) .lineOpen) := by
  have kept : ∀ c, isLive (withSample n r s) (.trunk n) c = isLive s (.trunk n) c := fun _ => rfl
  by_cases full : (lineWindowOf s n).length ≤ (lineWindowOf s n).taken + 1
  · simp [flagJudged, lineSample_judges r full, isLive_applyJudgement, judgeWindow_getD, kept, full]
  · simp [flagJudged, lineSample_counts r full, kept, full]

/-! ### A line test's end up to the trunk's decision -/

/-- The trunk as the exchange of its line test is over, the attention lines seen. -/
def probeOver (n : Nat) (lines : Attention) (s : State) : State := setExchange n none (seeLines n lines s)

/-- The sample taken and PROBE_DONE produced (R175, R185). -/
def probed (n : Nat) (r : ProbeResult) (lines : Attention) (s : State) : State :=
  produce (.probeDone n r) (lineSample n r (probeOver n lines s))

theorem trunkOf_probeOver (n : Nat) (lines : Attention) (s : State) (m : Nat) :
    trunkOf (probeOver n lines s) m =
      if n = m then
        { trunkOf s n with
          attention := lines, exchange := none, wake := (trunkOf s n).wake || anyAttention lines }
      else trunkOf s m := by
  simp only [probeOver, setExchange, seeLines, trunkOf_modifyTrunk, if_true]
  split <;> rfl

theorem withSample_eq (n : Nat) (r : ProbeResult) (lines : Attention) (s : State) :
    withSample n r (probeOver n lines s) =
      { s with
        trunks := (probeOver n lines s).trunks
        health := { s.health with lineWindows := (withSample n r (probeOver n lines s)).health.lineWindows } } := by
  unfold withSample setLineWindow
  rfl

theorem recordsJudged_probed (n : Nat) (r : ProbeResult) (lines : Attention) (s : State) :
    RecordsJudged (lineRecords n) (withSample n r (probeOver n lines s)) (lineSample n r (probeOver n lines s)) :=
  recordsJudged_lineSample n r _

theorem flagsOnly_probed (n : Nat) (r : ProbeResult) (lines : Attention) (s : State) :
    FlagsOnly (withSample n r (probeOver n lines s)) (probed n r lines s) :=
  (recordsJudged_probed n r lines s).frame.trans ⟨rfl⟩

theorem trunkOf_probed (n : Nat) (r : ProbeResult) (lines : Attention) (s : State) (m : Nat) :
    trunkOf (probed n r lines s) m = trunkOf (probeOver n lines s) m := by
  have trunks : (probed n r lines s).trunks = (probeOver n lines s).trunks := by
    rw [(flagsOnly_probed n r lines s).trunks, withSample_eq]
  rw [trunkOf, trunks, trunkOf]

/-- Nothing moved but the outbox, the trunks, the line windows, the live and held flags and the summary. -/
def TrunkAndFlags (s u : State) : Prop :=
  u = { s with
    outbox := u.outbox
    trunks := u.trunks
    health :=
      { s.health with
        live := u.health.live
        held := u.health.held
        summary := u.health.summary
        lineWindows := u.health.lineWindows } }

/-- A frame of the flags over a change of trunks and line windows. -/
theorem FlagsOnly.over {a b : State} (h : FlagsOnly a b)
    (ha : a = { s with trunks := a.trunks, health := { s.health with lineWindows := a.health.lineWindows } }) :
    TrunkAndFlags s b := by
  rw [TrunkAndFlags, h.trunks, h.lineWindows]
  exact h.eq.trans (by rw [ha])

/-- What the end of a line test leaves before the trunk decides. -/
theorem trunkAndFlags_probed (n : Nat) (r : ProbeResult) (lines : Attention) (s : State) :
    TrunkAndFlags s (probed n r lines s) :=
  (flagsOnly_probed n r lines s).over (withSample_eq n r lines s)

theorem probed_lineWindowOf (n : Nat) (r : ProbeResult) (lines : Attention) (s : State) (m : Nat) :
    lineWindowOf (probed n r lines s) m =
      if n = m then windowSampled (lineWindowOf s n) r s.health.lineSetting else lineWindowOf s m := by
  have kept : ∀ i, lineWindowOf (probeOver n lines s) i = lineWindowOf s i := fun _ => rfl
  rw [lineWindowOf, (flagsOnly_probed n r lines s).lineWindows, ← lineWindowOf, withSample, lineWindowOf_setLineWindow,
    kept, kept]
  rfl

/-- The notices of a line test's end (R175, R193; notes/assumptions/14.md). -/
theorem probed_outbox (hs : Settled s) (n : Nat) (r : ProbeResult) (lines : Attention) :
    (probed n r lines s).outbox = raised s (probed n r lines s) (lineRecords n) ++ [.probeDone n r] := by
  have start : (withSample n r (probeOver n lines s)).outbox = [] := by
    rw [withSample_eq]
    exact hs.1
  have notices : raised (withSample n r (probeOver n lines s)) (lineSample n r (probeOver n lines s)) (lineRecords n) =
      raised s (probed n r lines s) (lineRecords n) := by
    rw [withSample_eq]
    exact raised_congr (fun _ _ => ⟨Iff.rfl, Iff.rfl⟩) (fun _ _ => Iff.rfl) (fun c => by cases c <;> rfl) (fun _ => rfl)
      fun _ _ => rfl
  rw [← notices, probed, produce_outbox, (recordsJudged_probed n r lines s).outbox, start, List.nil_append]

theorem trunkOf_probed_own (n : Nat) (r : ProbeResult) (lines : Attention) (s : State) :
    trunkOf (probed n r lines s) n =
      { trunkOf s n with
        attention := lines, exchange := none, wake := (trunkOf s n).wake || anyAttention lines } := by
  rw [trunkOf_probed, trunkOf_probeOver, if_pos rfl]

theorem otherTrunksKept_probed (n : Nat) (r : ProbeResult) (lines : Attention) (s : State) :
    OtherTrunksKept n s (probed n r lines s) := fun m other => by
  rw [trunkOf_probed, trunkOf_probeOver, if_neg (Ne.symm other)]

/-- Its sample judges LINE_SHORT and LINE_OPEN of the trunk (R186). -/
theorem isLive_probed (n : Nat) (r : ProbeResult) (lines : Attention) (s : State) :
    isLive (probed n r lines s) (.trunk n) .lineShort =
        flagJudged (lineWindowOf s n) ((lineWindowOf s n).short + if r = .short then 1 else 0)
          (isLive s (.trunk n) .lineShort) ∧
      isLive (probed n r lines s) (.trunk n) .lineOpen =
        flagJudged (lineWindowOf s n) ((lineWindowOf s n).opens + opensOf r) (isLive s (.trunk n) .lineOpen) := by
  rw [← countSample_short, ← countSample_opens]
  exact isLive_lineSample n r (probeOver n lines s)

theorem mem_live_probed (n : Nat) (r : ProbeResult) (lines : Attention) (s : State) (k : CondKey)
    (other : k ∉ lineRecords n) : k ∈ (probed n r lines s).health.live ↔ k ∈ s.health.live :=
  (recordsJudged_probed n r lines s).others k other

/-- The held flags follow the sample's judgements (R192). -/
theorem heldFollows_probed (n : Nat) (r : ProbeResult) (lines : Attention) (s : State) (k : CondKey) :
    HeldFollows s (probed n r lines s) k := by
  have held := (recordsJudged_probed n r lines s).held k
  rw [HeldFollows, withSample_eq] at held
  exact held

/-! ### What the change of LINE_SHORT makes of the trunk (R178, R189) -/

/-- The trunk hears of LINE_SHORT if the flag is no longer what it was. -/
def shortHanded (n : Nat) (before : Bool) (u : State) : State :=
  if before = isLive u (.trunk n) .lineShort then u else handLineShort n (isLive u (.trunk n) .lineShort) u

/-- The trunk enters FAULTED (R178). -/
theorem onlyTrunk_enterFaulted (n : Nat) (u : State) :
    OnlyTrunk n
      { trunkOf u n with
        state := .faulted, rewalkPending := false
        probeInterval := some ((trunkOf u n).probeInterval.getD (u.now + Config.probeTime)) } u (enterFaulted n u) := by
  refine ⟨?_, fun m other => ?_, rfl⟩
  · rw [enterFaulted, trunkOf_modifyTrunk, if_pos rfl]
  · rw [enterFaulted, trunkOf_modifyTrunk, if_neg (Ne.symm other)]

theorem shortHanded_rises {n : Nat} (running : (trunkOf u n).state = .running)
    (live : isLive u (.trunk n) .lineShort = true) : shortHanded n false u = enterFaulted n u := by
  simp [shortHanded, live, handLineShort, running]

theorem shortHanded_mends {n : Nat} (faulted : (trunkOf u n).state = .faulted)
    (clear : isLive u (.trunk n) .lineShort = false) (goes : (trunkOf u n).stopPending = false) :
    shortHanded n true u = beginWalk n u := by
  simp [shortHanded, clear, handLineShort, faulted, goes]

theorem shortHanded_stays {n : Nat} {before : Bool}
    (noRise : ¬ ((trunkOf u n).state = .running ∧ before = false ∧ isLive u (.trunk n) .lineShort = true))
    (noMend : ¬ ((trunkOf u n).state = .faulted ∧ before = true ∧ isLive u (.trunk n) .lineShort = false ∧
      (trunkOf u n).stopPending = false)) : shortHanded n before u = u := by
  unfold shortHanded
  split
  · rfl
  · next changed =>
    unfold handLineShort
    dsimp only
    split
    · next running =>
      refine if_neg fun live => ?_
      have was : before = false := by simpa [live] using changed
      exact noRise ⟨running, was, live⟩
    · next faulted =>
      refine if_pos (Decidable.byContradiction fun mends => ?_)
      obtain ⟨clear, goes⟩ := not_or.mp mends
      have was : before = true := by simpa [clear] using changed
      exact noMend ⟨faulted, was, by simpa using clear, by simpa using goes⟩
    · rfl
    · rfl

theorem endProbe_decides {n : Nat} {r : ProbeResult} {lines : Attention}
    (free : (trunkOf (shortHanded n (isLive s (.trunk n) .lineShort) (probed n r lines s)) n).exchange = none) :
    endProbe n r (seeLines n lines s) =
      decideNext n (shortHanded n (isLive s (.trunk n) .lineShort) (probed n r lines s)) := by
  unfold endProbe
  dsimp only
  split
  · rfl
  · next held => exact absurd (free.symm.trans held) (by simp)

theorem endProbe_walks {n : Nat} {r : ProbeResult} {lines : Attention} {e : Exchange}
    (busy : (trunkOf (shortHanded n (isLive s (.trunk n) .lineShort) (probed n r lines s)) n).exchange = some e) :
    endProbe n r (seeLines n lines s) = shortHanded n (isLive s (.trunk n) .lineShort) (probed n r lines s) := by
  unfold endProbe
  dsimp only
  split
  · next free => exact absurd (busy.symm.trans free) (by simp)
  · rfl

/-- LINE_SHORT sets in while the trunk is RUNNING (R178). -/
theorem endProbe_rises {n : Nat} {r : ProbeResult} {lines : Attention} (running : (trunkOf s n).state = .running)
    (clear : isLive s (.trunk n) .lineShort = false) (live : isLive (probed n r lines s) (.trunk n) .lineShort = true) :
    endProbe n r (seeLines n lines s) = decideNext n (enterFaulted n (probed n r lines s)) := by
  have own := trunkOf_probed_own n r lines s
  have hands : shortHanded n (isLive s (.trunk n) .lineShort) (probed n r lines s) =
      enterFaulted n (probed n r lines s) := by
    rw [clear]
    exact shortHanded_rises (by rw [own]; exact running) live
  rw [← hands]
  refine endProbe_decides ?_
  rw [hands, (onlyTrunk_enterFaulted n _).1, own]

/-- LINE_SHORT is gone from a FAULTED trunk that no stop awaits (R178). -/
theorem endProbe_mends {n : Nat} {r : ProbeResult} {lines : Attention} (faulted : (trunkOf s n).state = .faulted)
    (live : isLive s (.trunk n) .lineShort = true) (clear : isLive (probed n r lines s) (.trunk n) .lineShort = false)
    (goes : (trunkOf s n).stopPending = false) :
    endProbe n r (seeLines n lines s) = beginWalk n (probed n r lines s) := by
  have own := trunkOf_probed_own n r lines s
  have hands : shortHanded n (isLive s (.trunk n) .lineShort) (probed n r lines s) = beginWalk n (probed n r lines s) := by
    rw [live]
    exact shortHanded_mends (by rw [own]; exact faulted) clear (by rw [own]; exact goes)
  rw [← hands]
  refine endProbe_walks (e := .count []) ?_
  rw [hands, beginWalk, trunkOf_modifyTrunk, if_pos rfl]

/-- Otherwise the trunk decides as at the end of any exchange (R176). -/
theorem endProbe_stays {n : Nat} {r : ProbeResult} {lines : Attention}
    (noRise : ¬ ((trunkOf s n).state = .running ∧ isLive s (.trunk n) .lineShort = false ∧
      isLive (probed n r lines s) (.trunk n) .lineShort = true))
    (noMend : ¬ ((trunkOf s n).state = .faulted ∧ isLive s (.trunk n) .lineShort = true ∧
      isLive (probed n r lines s) (.trunk n) .lineShort = false ∧ (trunkOf s n).stopPending = false)) :
    endProbe n r (seeLines n lines s) = decideNext n (probed n r lines s) := by
  have own := trunkOf_probed_own n r lines s
  have hands : shortHanded n (isLive s (.trunk n) .lineShort) (probed n r lines s) = probed n r lines s :=
    shortHanded_stays (by rw [own]; exact noRise) (by rw [own]; exact noMend)
  rw [endProbe_decides (by rw [hands, own]), hands]

theorem decisionFlow_endProbe (n : Nat) (r : ProbeResult) (lines : Attention) (s : State) :
    DecisionFlow (probed n r lines s) (endProbe n r (seeLines n lines s)) := by
  by_cases rise : (trunkOf s n).state = .running ∧ isLive s (.trunk n) .lineShort = false ∧
      isLive (probed n r lines s) (.trunk n) .lineShort = true
  · obtain ⟨running, clear, live⟩ := rise
    rw [endProbe_rises running clear live]
    exact (decisionFlow_modifyTrunk n _ _).trans (decisionFlow_decideNext n _)
  · by_cases mend : (trunkOf s n).state = .faulted ∧ isLive s (.trunk n) .lineShort = true ∧
        isLive (probed n r lines s) (.trunk n) .lineShort = false ∧ (trunkOf s n).stopPending = false
    · obtain ⟨faulted, live, clear, goes⟩ := mend
      rw [endProbe_mends faulted live clear goes]
      exact decisionFlow_beginWalk n _
    · rw [endProbe_stays rise mend]
      exact decisionFlow_decideNext n _

theorem exec_probeEnd {n : Nat} {r : ProbeResult} {lines : Attention} (low : 1 ≤ n) (high : n ≤ 4)
    (probing : (trunkOf s n).exchange = some .probe) :
    exec (.probeEnd n r lines) s = .next (flush (endProbe n r (seeLines n lines s))) := by
  have trunk : within Config.trunks n = true := by simp [within, Config.trunks, low, high]
  have seen : (trunkOf (seeLines n lines s) n).exchange = some .probe := by
    rw [seeLines, trunkOf_modifyTrunk, if_pos rfl]
    exact probing
  refine (if_pos trunk).trans ?_
  rw [event, probeEnds, seen]

/-! ### The end of a trunk's event -/

theorem LinkOutputOnly.trans {l m k : Link} (h : LinkOutputOnly l m) (g : LinkOutputOnly m k) : LinkOutputOnly l k := by
  rw [LinkOutputOnly] at *
  rw [g, h]

theorem linkOutputOnly_eventNotice (n : Notice) (s : State) : LinkOutputOnly s.link (eventNotice n s).link := by
  have joined : LinkOutputOnly s.link (joinNotice n s.link) := by
    unfold joinNotice
    split <;> rfl
  have sends : ∀ l, LinkOutputOnly l (nextFrame l) := fun l => by
    unfold nextFrame
    split
    · rfl
    · rfl
    · rfl
    · split <;> rfl
    · rfl
    · rfl
  unfold eventNotice arbitrate
  split
  · exact joined
  · exact joined.trans (sends _)

theorem linkOutputOnly_linkAfter (ns : List Notice) : ∀ s, LinkOutputOnly s.link (linkAfter ns s) := by
  induction ns with
  | nil => intro s; rfl
  | cons n ns ih => intro s; exact (linkOutputOnly_eventNotice n s).trans (ih (eventNotice n s))

theorem flush_link_of_decision (hu : TrunkAndFlags s u) (hw : DecisionFlow u w) :
    (flush w).link = linkAfter u.outbox s := by
  have settled := decisionFlow_settleTrunks w
  have link : w.link = s.link := hw.core.link.trans (by rw [hu])
  have pins : w.pins = s.pins := hw.core.pins.trans (by rw [hu])
  rw [flush_link, settled.outbox, hw.outbox, linkAfter_congr _ link pins]

/-- The frame of a trunk's event, from the frames of its parts. -/
theorem trunkSideFrame {y z : State} (hs : s.outbox = []) (hu : TrunkAndFlags s u) (hz : DecisionFlow u z)
    (hy : y = { z with outbox := [], link := y.link }) (output : LinkOutputOnly s.link y.link) :
    y = { s with
      link := { s.link with line := y.link.line, notices := y.link.notices, overflow := y.link.overflow }
      plates := { s.plates with plates := y.plates.plates, freeCount := y.plates.freeCount, watch := y.plates.watch }
      resolver := { s.resolver with signs := y.resolver.signs }
      dispatcher := y.dispatcher
      trunks := y.trunks
      health :=
        { s.health with
          live := y.health.live, held := y.health.held, summary := y.health.summary
          lineWindows := y.health.lineWindows } } := by
  have core := hz.core.eq
  rw [TrunkAndFlags] at hu
  rw [LinkOutputOnly] at output
  rw [← hs] at hy
  rw [← output, hy, core, hu]

theorem trunkSideKept_of_decision (hs : Settled s) (hu : TrunkAndFlags s u) (hw : DecisionFlow u w) :
    TrunkSideKept s (flush w) := by
  have flow := hw.trans (decisionFlow_settleTrunks w)
  have output : LinkOutputOnly s.link (flush w).link := by
    rw [flush_link_of_decision hu hw]
    exact linkOutputOnly_linkAfter _ s
  have signs : (flush w).resolver = s.resolver := by
    rw [flush_eq]
    exact flow.resolver.trans (by rw [hu])
  exact ⟨fun k => by rw [signAt, signs, signAt], trunkSideFrame hs.1 hu flow (flush_eq w) output⟩

/-- Nothing of a trunk's own flags and windows moves after its line test's sample. -/
theorem flush_isLive_of_decision (hw : DecisionFlow u w) (n : Nat) (c : Condition) :
    isLive (flush w) (.trunk n) c = isLive u (.trunk n) c := by
  have flow := hw.trans (decisionFlow_settleTrunks w)
  rw [flush_eq]
  exact flow.flags (.trunk n) c (by simp)

theorem flush_lineWindowOf_of_decision (hw : DecisionFlow u w) (n : Nat) :
    lineWindowOf (flush w) n = lineWindowOf u n := by
  have flow := hw.trans (decisionFlow_settleTrunks w)
  have windows : (settleTrunks w).health.lineWindows = u.health.lineWindows := by rw [flow.core.health]
  rw [flush_eq]
  exact congrArg (lookupD · n LineWindow.reset) windows

/-- Of the trunks, only the one whose line test ended may be told to decide; held by an exchange, or FAULTED with no probe
due, it takes nothing up. -/
theorem trunkOf_flush_holds {n : Nat} (low : 1 ≤ n) (high : n ≤ 4) (hs : Settled s)
    (others : OtherTrunksKept n s w)
    (holds : (trunkOf w n).exchange ≠ none ∨ ((trunkOf w n).state = .faulted ∧ (trunkOf w n).probeDue = false)) :
    trunkOf (flush w) n = { trunkOf w n with wake := false } := by
  have trunk : within Config.trunks n = true := by simp [within, Config.trunks, low, high]
  have only : settleTrunks w = settleTrunk n w := settleTrunks_only trunk fun m hm other => by
    rw [others m other]
    exact (settled_iff.mp hs).2 m hm
  rw [← trunkOf_settleTrunk_holds holds, ← only, flush_eq]
  rfl

/-- The trunk that a short has just stopped: FAULTED, its line test if one is due, and nothing else (R176, R178). -/
theorem trunkOf_flush_rises {n : Nat} {u v : State} {x : Trunk} (low : 1 ≤ n) (high : n ≤ 4) (hs : Settled s)
    (others : OtherTrunksKept n s u) (only : OnlyTrunk n x u v) (faulted : x.state = .faulted) (free : x.exchange = none)
    (goes : x.stopPending = false) :
    trunkOf (flush (decideNext n v)) n =
      { x with
        step := none, probeDue := false, exchange := if x.probeDue then some .probe else none, wake := false } := by
  obtain ⟨own, rest, _⟩ := only
  have decided := trunkOf_decideNext_faulted (s := v) (n := n) (by rw [own]; exact faulted) (by rw [own]; exact goes)
  have kept : OtherTrunksKept n s (decideNext n v) := fun m other => by
    rw [decided, if_neg (Ne.symm other), rest m other, others m other]
  have taken := decided n
  rw [if_pos rfl, own, free] at taken
  rw [trunkOf_flush_holds low high hs kept (.inr (by rw [taken]; exact ⟨faulted, rfl⟩)), taken]

/-- The trunk that a short has left walks (R178). -/
theorem trunkOf_flush_mends {n : Nat} {u : State} (low : 1 ≤ n) (high : n ≤ 4) (hs : Settled s)
    (others : OtherTrunksKept n s u) :
    trunkOf (flush (beginWalk n u)) n =
      { trunkOf u n with
        state := .counting, rewalkPending := false, walkPosition := 0, step := none, exchange := some (.count [])
        wake := false
        probeInterval := if (trunkOf u n).probing then (trunkOf u n).probeInterval else none } := by
  have walks : ∀ m, trunkOf (beginWalk n u) m =
      if n = m then
        { trunkOf u n with
          state := .counting, rewalkPending := false, walkPosition := 0, exchange := some (.count []), step := none
          probeInterval := if (trunkOf u n).probing then (trunkOf u n).probeInterval else none }
      else trunkOf u m := fun m => by rw [beginWalk, trunkOf_modifyTrunk]
  have kept : OtherTrunksKept n s (beginWalk n u) := fun m other => by
    rw [walks, if_neg (Ne.symm other), others m other]
  have own := walks n
  rw [if_pos rfl] at own
  rw [trunkOf_flush_holds low high hs kept (.inl (by rw [own]; simp)), own]

/-- The end of a line test: `u` before the trunk decides, `w` after (R175, R176, R178, R185–R189). -/
structure LineTestEnds (n : Nat) (r : ProbeResult) (lines : Attention) (s u w : State) : Prop where
  trunk : trunkOf u n =
    { trunkOf s n with attention := lines, exchange := none, wake := (trunkOf s n).wake || anyAttention lines }
  others : OtherTrunksKept n s u
  windows : ∀ m, lineWindowOf u m =
    if n = m then windowSampled (lineWindowOf s n) r s.health.lineSetting else lineWindowOf s m
  judged :
    isLive u (.trunk n) .lineShort =
        flagJudged (lineWindowOf s n) ((lineWindowOf s n).short + if r = .short then 1 else 0)
          (isLive s (.trunk n) .lineShort) ∧
      isLive u (.trunk n) .lineOpen =
        flagJudged (lineWindowOf s n) ((lineWindowOf s n).opens + opensOf r) (isLive s (.trunk n) .lineOpen)
  live : ∀ k, k ∉ lineRecords n → (k ∈ u.health.live ↔ k ∈ s.health.live)
  held : ∀ k, HeldFollows s u k
  outbox : u.outbox = raised s u (lineRecords n) ++ [.probeDone n r]
  frame : TrunkAndFlags s u
  flow : DecisionFlow u w
  stays : ¬ ((trunkOf s n).state = .running ∧ isLive s (.trunk n) .lineShort = false ∧
      isLive u (.trunk n) .lineShort = true) →
    ¬ ((trunkOf s n).state = .faulted ∧ isLive s (.trunk n) .lineShort = true ∧
      isLive u (.trunk n) .lineShort = false ∧ (trunkOf s n).stopPending = false) → w = decideNext n u
  rises : (trunkOf s n).state = .running → isLive s (.trunk n) .lineShort = false →
    isLive u (.trunk n) .lineShort = true → ∃ v, w = decideNext n v ∧
      OnlyTrunk n
        { trunkOf u n with
          state := .faulted, rewalkPending := false
          probeInterval := some ((trunkOf s n).probeInterval.getD (s.now + 10000)) } u v
  mends : (trunkOf s n).state = .faulted → isLive s (.trunk n) .lineShort = true →
    isLive u (.trunk n) .lineShort = false → (trunkOf s n).stopPending = false → w = beginWalk n u

theorem exec_probeEnd_lineTestEnds {n : Nat} (r : ProbeResult) (lines : Attention) (hs : Settled s) (low : 1 ≤ n)
    (high : n ≤ 4) (probing : (trunkOf s n).exchange = some .probe) :
    ∃ u w, exec (.probeEnd n r lines) s = .next (flush w) ∧ LineTestEnds n r lines s u w := by
  refine ⟨probed n r lines s, endProbe n r (seeLines n lines s), exec_probeEnd low high probing, ?_⟩
  refine ⟨trunkOf_probed_own n r lines s, otherTrunksKept_probed n r lines s, probed_lineWindowOf n r lines s,
    isLive_probed n r lines s, mem_live_probed n r lines s, heldFollows_probed n r lines s, probed_outbox hs n r lines,
    trunkAndFlags_probed n r lines s, decisionFlow_endProbe n r lines s, endProbe_stays, fun running clear live => ?_,
    endProbe_mends⟩
  have interval : (trunkOf (probed n r lines s) n).probeInterval = (trunkOf s n).probeInterval := by
    rw [trunkOf_probed_own]
  have now : (probed n r lines s).now = s.now := by rw [trunkAndFlags_probed]
  have only := onlyTrunk_enterFaulted n (probed n r lines s)
  rw [interval, now] at only
  exact ⟨_, endProbe_rises running clear live, only⟩

/-! ### The statement -/

/-- Settles O58: the flags by `setLive_cases`; a full wall window and a grace's end as records judged or promoted one after
the other; a line test by what its end makes of LINE_SHORT. -/
theorem samplesAndGrace : Obligations.SamplesAndGrace := by
  unfold Obligations.SamplesAndGrace
  refine ⟨fun o c s => ⟨fun v same => setLive_same same, fun live => ?_,
      fun clear => ⟨?_, fun silent => ?_, fun armed unheld => ?_⟩⟩,
    fun s hs => ⟨⟨fun more => ?_, fun full => ?_⟩, fun c ends grace => ?_, fun n r lines low high probing => ?_⟩⟩
  · refine ⟨⟨mem_live_setLive o c false s, (flagsOnly_setLive o c false s).eq⟩, ?_⟩
    rw [setLive_falls live]
    exact ⟨rfl, rfl⟩
  · exact ⟨mem_live_setLive o c true s, (flagsOnly_setLive o c true s).eq⟩
  · dsimp only
    rw [setLive_rises_silent clear silent]
    exact ⟨rfl, rfl⟩
  · refine ⟨fun k => ?_, ?_, ?_⟩
    · rw [mem_held_setLive]
      simp [clear, armed, or_comm]
    · rw [setLive_rises_held clear armed unheld, setHeld_eq]
      rfl
    · rw [outbox_setLive]
      by_cases selected : isSelected s c = true <;> simp [clear, armed, unheld, selected]
  · exact ⟨sampledCounts s, exec_wallSample_counts hs more, fun i low high => lookupD_sampledCounts low high⟩
  · obtain ⟨u, run, frame, live, others, held, outbox⟩ := exec_wallSample_judged hs full
    refine ⟨_, run, ?_, ?_, ?_, fun i low high => ?_, others, held, ?_, ?_⟩
    · rw [frame]
    · rw [frame]
    · rw [frame]
    · exact (live i low high).trans (judgeWindow_getD _ _ _)
    · exact congrArg (linkAfter · s) outbox
    · rw [frame]
  · obtain ⟨u, run, frame, live, held, outbox⟩ := exec_graceEnd_promoted hs grace
    refine ⟨_, run, ?_, live, held, congrArg (linkAfter · s) outbox, by rw [frame]⟩
    rw [frame]
    cases c <;> rfl
  · obtain ⟨u, w, run, test⟩ := exec_probeEnd_lineTestEnds r lines hs low high probing
    obtain ⟨short, opens⟩ := test.judged
    refine ⟨u, _, _, run, test.trunk, test.others, ?_, fun i other => ?_, short, ?_, test.live, test.held, test.outbox,
      test.frame, flush_link_of_decision test.frame test.flow, flush_lineWindowOf_of_decision test.flow n,
      fun c _ => flush_isLive_of_decision test.flow n c, trunkSideKept_of_decision hs test.frame test.flow,
      fun noRise noMend => ?_, fun rise => ?_, fun mend => ?_⟩
    · have window := (test.windows n).trans ((if_pos rfl).trans (windowSampled_eq _ r _))
      cases r <;> exact window
    · rw [test.windows, if_neg (Ne.symm other)]
    · cases r <;> exact opens
    · rw [test.stays (by rwa [short]) (by rwa [short])]
    · obtain ⟨running, clear, live⟩ := rise
      obtain ⟨v, decides, only⟩ := test.rises running clear (short.trans live)
      refine ⟨⟨v, only, by rw [decides]⟩, fun goes => ?_⟩
      have due : (trunkOf u n).probeDue = (trunkOf s n).probeDue := by rw [test.trunk]
      rw [decides, ← due]
      exact trunkOf_flush_rises low high hs test.others only rfl (by rw [test.trunk]) (by rw [test.trunk]; exact goes)
    · obtain ⟨faulted, live, clear, goes⟩ := mend
      rw [test.mends faulted live (short.trans clear) goes, trunkOf_flush_mends low high hs test.others, test.trunk]

end Sys2Proof.Machine
end

section
/-! SUPPORT. The statement of 10_frame_and_record_layouts.md on the digest: its register byte by byte, and the lengths of
what it covers (R201, R204). -/

namespace Sys2Proof.Machine

/-! ### The register (R201) -/

/-- One more covered byte is one more round of the register. -/
theorem digest_concat (bs : List Byte) (b : Byte) : digest (bs ++ [b]) = digestByte (digest bs) b := by
  rw [digest, digest, List.foldl_append, List.foldl_cons, List.foldl_nil]

/-- The digest R201 gives of the characters 1 to 9. -/
theorem digest_checkString : digest [0x31, 0x32, 0x33, 0x34, 0x35, 0x36, 0x37, 0x38, 0x39] = 0x29B1 := by
  decide +kernel

/-! ### A plate's content (R80) -/

@[simp] theorem content_length (s : State) (p : Plate) : (content s p).length = p.size := by
  rw [content, List.length_map, List.length_range]

theorem content_getElem? {s : State} {p : Plate} {i : Nat} (h : i < p.size) :
    (content s p)[i]? = some (contentByte s p i) := by
  rw [content, List.getElem?_map, List.getElem?_range h, Option.map_some]

/-! ### The length of a composition's encoding (R204) -/

@[simp] theorem flag_length (b : Bool) : (flag b).length = 1 := by cases b <;> rfl

@[simp] theorem u8_length (n : Nat) : (u8 n).length = 1 := rfl

@[simp] theorem u16_length (n : Nat) : (u16 n).length = 2 := rfl

@[simp] theorem layerList_length (y : Layers) : (layerList y).length = 6 := rfl

@[simp] theorem timeBytes_length (t : TimeField) : (timeBytes t).length = 4 := rfl

@[simp] theorem lineBytes_length (l : DirLine) : (lineBytes l).length = 6 := rfl

theorem flatMap_length_of_width {α : Type} {width : Nat} {f : α → List Byte} (wide : ∀ x, (f x).length = width)
    (l : List α) : (l.flatMap f).length = l.length * width := by
  induction l with
  | nil => rw [List.flatMap_nil, List.length_nil, List.length_nil, Nat.zero_mul]
  | cons x xs ih => rw [List.flatMap_cons, List.length_append, wide, ih, List.length_cons, Nat.succ_mul, Nat.add_comm]

/-- A list that fits its places fills them exactly, each item being of the width of a place. -/
theorem padded_length {α : Type} {places width : Nat} {f : α → List Byte} {l : List α}
    (wide : ∀ x, (f x).length = width) (fits : l.length ≤ places) : (padded places width f l).length = places * width := by
  rw [padded, List.length_append, flatMap_length_of_width wide, List.length_replicate, ← Nat.add_mul, Nat.add_sub_cancel' fits]

theorem encodeComposition_length {c : Composition} (lines : c.lines.length ≤ 4) (starts : c.starts.length ≤ 5) :
    (encodeComposition c).length = 52 := by
  have lineField : (padded 4 6 lineBytes c.lines).length = 24 := padded_length lineBytes_length lines
  have startField : (padded 5 2 u16 c.starts).length = 10 := padded_length u16_length starts
  simp only [encodeComposition, List.length_append, flatMap_length_of_width (fun _ => u8_length _), layerList_length,
    u8_length, u16_length, timeBytes_length, flag_length, lineField, startField]

/-! ### The statement -/

/-- Settles O4: the register by `digest_concat`, the plate's and the composition's cover by their lengths; the two frames
are laid out as the statement lays them out. -/
theorem digestRule : Obligations.DigestRule := by
  unfold Obligations.DigestRule
  exact ⟨rfl, digest_checkString, digest_concat, fun _ _ _ => rfl, fun _ _ _ => rfl,
    fun s p => ⟨content_length s p, fun _ => content_getElem?⟩, fun c => ⟨rfl, encodeComposition_length⟩⟩

end Sys2Proof.Machine
end
